-- ==== Sys2Proof/Word.lean ====
section
/-! DEFINITION. The kinds of value of the block. The value of a port, a field or a register is an unsigned integer (00_scope.md
section 5.1; R62) whose width is a parameter of the block (R2), so it is a natural number with a stated bound (Safety.lean,
`WidthInv`) and not a bit vector of a fixed width (entry 12); every rule's `mod 2^N` and `sat_N` is written out. Speeds, setpoints and duties
are exact non-negative rationals. -/

namespace Sys2Proof

/-- An exact non-negative rational as the block holds it, numerator over denominator (00_scope.md section 5.2; R57, R58).
Not reduced: the denominator is the one the hardware's format gives. -/
structure Frac where
  num : Nat
  den : Nat
  deriving DecidableEq, Repr

/-- The rational that a numerator and a denominator stand for. -/
def Frac.toRat (q : Frac) : ℚ := (q.num : ℚ) / (q.den : ℚ)

end Sys2Proof
end

