-- ==== Sys2Proof/Config.lean ====
section
/-! DEFINITION. The build-time parameters of the block (R1, R2), their defaults, and the constraints of R3. The spec leaves no
value of a register or a result open, so there is no free value here. -/

namespace Sys2Proof

/-- The parameters of R1 and R2. `DUTY_W` and `DEBOUNCE_TICKS` are derived from these (Machine/Ops.lean). -/
structure Config where
  /-- `PPR`, pulses per revolution (R1). -/
  ppr : Nat
  /-- `TSR`, the RPM of full duty (R1). -/
  tsr : Nat
  /-- `MAX_DUTY` (R1). -/
  maxDuty : Nat
  /-- `DUTY_STEP` (R1). -/
  dutyStep : Nat
  /-- `DRIFT_NUM` of `DRIFT = DRIFT_NUM / DRIFT_DEN`, in RPM (R1). -/
  driftNum : Nat
  /-- `DRIFT_DEN` (R1). -/
  driftDen : Nat
  /-- `DZ_NUM` of `DZ = DZ_NUM / DZ_DEN`, in RPM (R1). -/
  dzNum : Nat
  /-- `DZ_DEN` (R1). -/
  dzDen : Nat
  /-- `CYCLE_INTERVAL` in milliseconds (R1); read by no rule (R136). -/
  cycleInterval : Nat
  /-- `DEBOUNCE_INTERVAL` in milliseconds (R1). -/
  debounceInterval : Nat
  /-- `CNT_W` (R2). -/
  cntW : Nat
  /-- `TIME_W` (R2). -/
  timeW : Nat
  /-- `TICKS_PER_SECOND` (R2). -/
  ticksPerSecond : Nat
  /-- `MIN_ELAPSED`, in ticks (R2). -/
  minElapsed : Nat
  /-- `TSM`, the largest setpoint in RPM (R2). -/
  tsm : Nat
  /-- `ADC_W` (R2). -/
  adcW : Nat
  /-- `RAW_MAX`, the full-scale raw sample (R2). -/
  rawMax : Nat
  deriving DecidableEq, Repr

/-- The defaults of the tables of R1 and R2. -/
def Config.default : Config where
  ppr := 3
  tsr := 20
  maxDuty := 255
  dutyStep := 20
  driftNum := 1
  driftDen := 2
  dzNum := 1
  dzDen := 5
  cycleInterval := 100
  debounceInterval := 200
  cntW := 32
  timeW := 32
  ticksPerSecond := 1000
  minElapsed := 1
  tsm := 20
  adcW := 10
  rawMax := 1023

/-- The constraints of R3. `DZ <= TSM` and `DEBOUNCE_TICKS < 2^TIME_W` are written without their divisions. The last three
clauses are the types of R1 (a rational has a positive denominator, `CYCLE_INTERVAL` is a positive integer); DEDUCED, entry 9. -/
abbrev Config.Valid (c : Config) : Prop :=
  1 ≤ c.ppr ∧ c.ppr ≤ 2 ^ c.cntW - 1 ∧ 1 ≤ c.tsr ∧ 1 ≤ c.tsm ∧ 1 ≤ c.maxDuty ∧ 1 ≤ c.dutyStep ∧
  c.dzNum ≤ c.tsm * c.dzDen ∧ 1 ≤ c.rawMax ∧ c.rawMax ≤ 2 ^ c.adcW - 1 ∧ 1 ≤ c.minElapsed ∧
  1 ≤ c.ticksPerSecond ∧ c.debounceInterval * c.ticksPerSecond < 2 ^ c.timeW * 1000 ∧
  1 ≤ c.driftDen ∧ 1 ≤ c.dzDen ∧ 1 ≤ c.cycleInterval

/-- `DRIFT` as an exact rational (R1). -/
def Config.drift (c : Config) : ℚ := (c.driftNum : ℚ) / (c.driftDen : ℚ)

/-- `DZ` as an exact rational (R1). -/
def Config.deadZone (c : Config) : ℚ := (c.dzNum : ℚ) / (c.dzDen : ℚ)

end Sys2Proof
end

