-- ==== Sys2Proof/Syntax.lean ====
section
/-! DEFINITION. The operations of the block (R52): one constructor for each row of spec/opcode_table.json. -/

namespace Sys2Proof

/-- An operation with the operands it uses (R53). Fields that a command ignores are no part of it (R53, R55, U7). -/
inductive Instr where
  /-- The producer's event on the `pulse` port (R71). -/
  | pulse
  /-- op 000 (R135). -/
  | nop
  /-- op 001 (R73). -/
  | rdrst
  /-- op 010, with the timestamp `now` (R87). -/
  | observe (now : Nat)
  /-- op 011, with the raw sample (R94). -/
  | potcond (raw : Nat)
  /-- op 100, with the button level and the timestamp (R112). -/
  | cruise (pressed : Bool) (now : Nat)
  /-- op 101 (R122). -/
  | slew
  /-- op 110, with the button level, the raw sample and the timestamp (R134). -/
  | cycle (pressed : Bool) (raw now : Nat)
  /-- op 111, reserved; the hardware treats it as NOP (R54). -/
  | reserved111
  deriving DecidableEq, Repr

end Sys2Proof
end

