-- ==== Sys2Proof/WellFormed.lean ====
section
/-! DEFINITION. When an operation fits the command word: each operand fits its field (R51, R62). -/

namespace Sys2Proof

/-- `now` fits the low `TIME_W` bits (R51). -/
def nowFits (c : Config) (now : Nat) : Bool := decide (now < 2 ^ c.timeW)

/-- `raw` fits its `ADC_W` bits (R51). A `raw` above `RAW_MAX` is legal and is clamped (R92). -/
def rawFits (c : Config) (raw : Nat) : Bool := decide (raw < 2 ^ c.adcW)

/-- Every operand fits its field. -/
def Instr.wellFormed (c : Config) : Instr → Bool
  | .pulse => true
  | .nop => true
  | .rdrst => true
  | .observe now => nowFits c now
  | .potcond raw => rawFits c raw
  | .cruise _ now => nowFits c now
  | .slew => true
  | .cycle _ raw now => rawFits c raw && nowFits c now
  | .reserved111 => true

end Sys2Proof
end

