-- ==== Sys2Proof/Decode.lean ====
section
/-! DEFINITION. The command word and the pulse port as numbers, the decoder, and the encoder (R51 to R55, R59, R61, R62). -/

namespace Sys2Proof

/-- What an input port carries when it carries an operation: the `pulse` port's value, or the `cmd` port's word (R50). -/
inductive PortWord where
  | pulsePort (v : Nat)
  | command (w : Nat)
  deriving DecidableEq, Repr

/-- Why a port's value is no operation. -/
inductive DecodeError where
  /-- The `pulse` port is not 1: no event (R59). -/
  | noPulseEvent
  /-- The number does not fit the `cmd` port, which has `6 + ADC_W + TIME_W` bits (R50, R51). -/
  | commandTooWide
  deriving DecidableEq, Repr

/-- The width of the `cmd` port, `6 + ADC_W + TIME_W` (R50); 48 for the defaults. -/
def cmdWidth (c : Config) : Nat := 6 + c.adcW + c.timeW

/-- `cmd.now`, the low `TIME_W` bits (R51). -/
def fieldNow (c : Config) (w : Nat) : Nat := w % 2 ^ c.timeW

/-- `cmd.raw`, the next `ADC_W` bits (R51). -/
def fieldRaw (c : Config) (w : Nat) : Nat := w / 2 ^ c.timeW % 2 ^ c.adcW

/-- The two reserved bits (R51); read by nothing (R55). -/
def fieldReserved (c : Config) (w : Nat) : Nat := w / 2 ^ (c.adcW + c.timeW) % 4

/-- `cmd.pressed`, one bit, 1 = the button is held down (R51, R64). -/
def fieldPressed (c : Config) (w : Nat) : Bool := decide (w / 2 ^ (2 + c.adcW + c.timeW) % 2 = 1)

/-- `cmd.op`, the top three bits (R51). -/
def fieldOp (c : Config) (w : Nat) : Fin 8 := Fin.ofNat 8 (w / 2 ^ (3 + c.adcW + c.timeW))

/-- The command that `op` selects, with the fields it uses (R52, R53). -/
def commandOf (c : Config) (w : Nat) : Instr :=
  match fieldOp c w with
  | 0 => .nop
  | 1 => .rdrst
  | 2 => .observe (fieldNow c w)
  | 3 => .potcond (fieldRaw c w)
  | 4 => .cruise (fieldPressed c w) (fieldNow c w)
  | 5 => .slew
  | 6 => .cycle (fieldPressed c w) (fieldRaw c w) (fieldNow c w)
  | 7 => .reserved111

/-- The decoder, total: every value of the `pulse` port and every number offered as a command word (R51, R52, R59). -/
def decode (c : Config) : PortWord → Except DecodeError Instr
  | .pulsePort v => if v = 1 then .ok .pulse else .error .noPulseEvent
  | .command w => if w < 2 ^ cmdWidth c then .ok (commandOf c w) else .error .commandTooWide

/-- A bit as a number. -/
def bitOf (b : Bool) : Nat := if b then 1 else 0

/-- A command word from its fields, the reserved bits written as 0 (R51, R55). -/
def packCommand (c : Config) (op : Nat) (pressed : Bool) (raw now : Nat) : Nat :=
  op * 2 ^ (3 + c.adcW + c.timeW) + bitOf pressed * 2 ^ (2 + c.adcW + c.timeW) + raw * 2 ^ c.timeW + now

/-- The encoder: a field that a command ignores is encoded as 0 (R52, R53, R61). -/
def encode (c : Config) : Instr → PortWord
  | .pulse => .pulsePort 1
  | .nop => .command (packCommand c 0 false 0 0)
  | .rdrst => .command (packCommand c 1 false 0 0)
  | .observe now => .command (packCommand c 2 false 0 now)
  | .potcond raw => .command (packCommand c 3 false raw 0)
  | .cruise pressed now => .command (packCommand c 4 pressed 0 now)
  | .slew => .command (packCommand c 5 false 0 0)
  | .cycle pressed raw now => .command (packCommand c 6 pressed raw now)
  | .reserved111 => .command (packCommand c 7 false 0 0)

/-- A port's value fits its port (R50, R59). -/
def PortWord.fits (c : Config) : PortWord → Prop
  | .pulsePort v => v ≤ 1
  | .command w => w < 2 ^ cmdWidth c

/-- Where the opcode table's numbered bits stand in the hardware: PULSE's row has the one-bit format PULSE_PORT, every other row
the 48-bit format CMD48 (R51; entry 10). -/
def tableWord (nbits w : Nat) : PortWord := if nbits < 48 then .pulsePort w else .command w

/-- The instruction that the decoder reads from a word of spec/opcode_table.json, for the default parameters. -/
def decodeTableWord (nbits w : Nat) : Option Instr :=
  match decode Config.default (tableWord nbits w) with
  | .ok i => some i
  | .error _ => none

end Sys2Proof
end

