-- ==== Sys2Proof/Machine/State.lean ====
section
/-! DEFINITION. The state of the block: the seventeen registers of R13 to R29, and two fields of the model's own (the parameters
and the samples of the input ports still to come). The reasons a step can stop. The state after reset (R35). -/

namespace Sys2Proof.Machine

/-- CruiseState, "enum {Disengaged, Engaged}" (R21, R56). -/
inductive CruiseState where
  | disengaged
  | engaged
  deriving DecidableEq, Repr

/-- One sample of the input ports (R50). In the total order of R42 it stands for what it raises: a reset, a PULSE, an issued
command, or a PULSE and a command of one clock period (R74, R147); with every port 0 it is a clock period in which nothing
arrives (R153). Entry 3. -/
structure InputSample where
  /-- The `rst` port (R155). -/
  rst : Bool := false
  /-- The `pulse` port (R59). -/
  pulse : Bool := false
  /-- The `cmd_valid` port; the block is ready at every sample (R165), so 1 issues the command. -/
  cmdValid : Bool := false
  /-- The `cmd` port (R51). -/
  cmd : Nat := 0
  deriving DecidableEq, Repr

/-- The state. The registers are the spec's (R10, R13 to R29); `cfg` and `inputs` are the model's own (entries 3, 4). -/
structure State where
  /-- The parameters of R1 and R2; no step changes them. -/
  cfg : Config
  /-- `count` (R13), CNT_W bits. -/
  count : Nat
  /-- `acc` (R14), CNT_W bits. -/
  acc : Nat
  /-- `ts` (R15), TIME_W bits. -/
  ts : Nat
  /-- `spd_nz` of the speed sample (R16, R58). -/
  spdNz : Bool
  /-- `spd_period` of the speed sample (R16, R58), TIME_W bits. -/
  spdPeriod : Nat
  /-- `rd_val` (R17), CNT_W bits. -/
  rdVal : Nat
  /-- `fresh` (R18). -/
  fresh : Bool
  /-- `degen` (R19). -/
  degen : Bool
  /-- `sp_num`, the numerator of `sp` over RAW_MAX (R20, R57). -/
  spNum : Nat
  /-- `cruise` (R21). -/
  cruise : CruiseState
  /-- `db_valid` (R22). -/
  dbValid : Bool
  /-- `db_time` (R23), TIME_W bits. -/
  dbTime : Nat
  /-- `btn_prev` (R24). -/
  btnPrev : Bool
  /-- The numerator of `sp_prev` over RAW_MAX (R25, R57). -/
  spPrevNum : Nat
  /-- `evt_toggle` (R26). -/
  evtToggle : Bool
  /-- `evt_drift` (R27). -/
  evtDrift : Bool
  /-- `cur` (R28), DUTY_W bits; the `duty` port shows it (R30). -/
  cur : Nat
  /-- `tgt` (R29), DUTY_W bits. -/
  tgt : Nat
  /-- The samples of the input ports still to come, the next one at the head. -/
  inputs : List InputSample
  deriving DecidableEq, Repr

/-- Why the machine faults. The core step never faults: the hardware has no fault state (R140, R145). -/
inductive Fault where
  /-- `CounterOverflow` (R75, R145, U5): a PULSE at `count = 2^CNT_W - 1`. Raised by the checked machine (Machine/Checked.lean)
  only; the core step wraps, as the hardware does. Safe: the checked machine stops where the hardware goes on. -/
  | counterOverflow
  deriving DecidableEq, Repr

/-- Why the machine refuses. -/
inductive Refusal where
  /-- An instruction without a meaning. No arm of `exec` answers it. Safe. -/
  | notModelled (mnemonic : String)
  /-- `BadConfig` (R3, R145, U16): the parameters break R3. Raised by every step, core and checked. Safe: such a block is not
  buildable. -/
  | badConfig
  /-- `ReservedOp` (R54, R145, U6): a command with `op = 111`. Raised by the checked machine only; the core step treats it as NOP,
  as the hardware does. Safe: the checked machine stops where the hardware goes on. -/
  | reservedOp
  /-- The pending sample's `cmd` does not fit the port (R50): no hardware can be offered it (entry 11). Raised by every step, core and
  checked. Safe. -/
  | commandTooWide
  deriving DecidableEq, Repr

/-- The state after reset (R35), for the default parameters, with nothing arriving. -/
def State.reset : State where
  cfg := Config.default
  count := 0
  acc := 0
  ts := 0
  spdNz := false
  spdPeriod := 0
  rdVal := 0
  fresh := false
  degen := false
  spNum := 0
  cruise := .disengaged
  dbValid := false
  dbTime := 0
  btnPrev := false
  spPrevNum := 0
  evtToggle := false
  evtDrift := false
  cur := 0
  tgt := 0
  inputs := []

end Sys2Proof.Machine
end

