-- ==== Sys2Proof/Machine/Ops.lean ====
section
/-! DEFINITION. The named operations over the registers: arithmetic helpers, each register's updates, the primitive
`AtomicReadReset()` (R72), and reset (R155). The block has no memory (R40) and takes no exception (R140), so there is no memory
operation and no exception entry or return. -/

namespace Sys2Proof.Machine

/-- An operation's outcome in this machine. -/
abbrev Out := Host.Outcome State Fault Refusal

/-- `sat_N(v) = min(v, 2^N - 1)` (00_scope.md section 5.1). -/
def sat (n v : Nat) : Nat := min v (2 ^ n - 1)

/-- `Elapsed(a, b) = (a - b) mod 2^TIME_W` (00_scope.md section 5.4; R83, R101). -/
def elapsed (c : Config) (a b : Nat) : Nat := (((a : Int) - (b : Int)) % ((2 ^ c.timeW : Nat) : Int)).toNat

/-- `abs(a - b)` of unsigned integers, as R113 computes it. -/
def absDiff (a b : Nat) : Nat := if b ≤ a then a - b else b - a

/-- `DEBOUNCE_TICKS = DEBOUNCE_INTERVAL * TICKS_PER_SECOND / 1000` (R2). A whole number of ticks is below the exact quotient just
when it is below the quotient rounded up. DEDUCED, entry 8. -/
def debounceTicks (c : Config) : Nat := (c.debounceInterval * c.ticksPerSecond + 999) / 1000

/-- `DUTY_W = ceil(log2(MAX_DUTY + 1))` (R2). -/
def dutyWidth (c : Config) : Nat := Nat.clog 2 (c.maxDuty + 1)

/-- The width of the `sp_num` port, `ceil(log2(RAW_MAX * TSM + 1))` (R50). -/
def setpointWidth (c : Config) : Nat := Nat.clog 2 (c.rawMax * c.tsm + 1)

/-- The value that `count = 2^CNT_W - 1` names: one more PULSE wraps (R75). -/
def countMax (c : Config) : Nat := 2 ^ c.cntW - 1

/-! ### Updates of the registers -/

/-- The atomic increment of `count`, modulo `2^CNT_W` (R71). -/
def bumpCount (s : State) : State := { s with count := (s.count + 1) % 2 ^ s.cfg.cntW }

/-- `count <- 0`, the second half of R72. -/
def clearCount (s : State) : State := { s with count := 0 }

/-- `AtomicReadReset()` (R72): the value `count` held, and the state in which it is cleared. -/
def atomicReadReset (s : State) : Nat × State := (s.count, clearCount s)

/-- The value read goes to `rd_val` and into the saturating accumulator (R73, R81). -/
def deliver (v : Nat) (s : State) : State := { s with rdVal := v, acc := sat s.cfg.cntW (s.acc + v) }

/-- The read-and-reset with its delivery, common to RDRST and OBSERVE (R73, R81). -/
def readAndDeliver (s : State) : State := deliver (atomicReadReset s).1 (atomicReadReset s).2

/-- A speed sample is produced (R84): `spd_nz <- 1`, `spd_period <- e`, `ts <- now`, `acc <- 0`. -/
def writeSample (now e : Nat) (s : State) : State := { s with spdNz := true, spdPeriod := e, ts := now, acc := 0 }

/-- `sp` takes the setpoint `n / RAW_MAX` (R57, R94). -/
def writeSetpoint (n : Nat) (s : State) : State := { s with spNum := n }

/-- The quiet period is over and forgotten (R101). -/
def forgetQuiet (s : State) : State := { s with dbValid := false }

/-- The other state of CruiseState (R103). -/
def otherState : CruiseState → CruiseState
  | .disengaged => .engaged
  | .engaged => .disengaged

/-- An accepted edge toggles `cruise` and starts a quiet period at `now` (R103, R104). -/
def acceptEdge (now : Nat) (s : State) : State :=
  { s with cruise := otherState s.cruise, dbValid := true, dbTime := now }

/-- `btn_prev <- pressed` (R106). -/
def writeButton (pressed : Bool) (s : State) : State := { s with btnPrev := pressed }

/-- `cruise <- Disengaged` (R107). -/
def disengage (s : State) : State := { s with cruise := .disengaged }

/-- `sp_prev <- sp` (R109). -/
def rememberSetpoint (s : State) : State := { s with spPrevNum := s.spNum }

/-- `tgt <- t`, `cur <- c` (R122). -/
def writeDuty (t c : Nat) (s : State) : State := { s with tgt := t, cur := c }

/-- The sample at the head of `inputs` has been taken: `rest` is still to come. -/
def setInputs (rest : List InputSample) (s : State) : State := { s with inputs := rest }

/-- Reset (R155): every register takes the value of R35. The parameters are constants (R1), and what the environment does after the
reset is its own (entry 3). -/
def resetRegisters (s : State) : State := { State.reset with cfg := s.cfg, inputs := s.inputs }

end Sys2Proof.Machine
end

