-- ==== Sys2Proof/Machine/Flags.lean ====
section
/-! DEFINITION. The result flags (R31): who writes each and when. There are no condition codes. -/

namespace Sys2Proof.Machine

/-- `fresh` and `degen`, both written by every OBSERVE (R18, R19, R87). -/
def writeObserveFlags (fresh degen : Bool) (s : State) : State := { s with fresh := fresh, degen := degen }

/-- `evt_toggle <- toggle`, by every button phase (R26, R111). -/
def writeToggleFlag (toggle : Bool) (s : State) : State := { s with evtToggle := toggle }

/-- `evt_drift <- drift_dis`, by every drift phase (R27, R111). -/
def writeDriftFlag (driftDis : Bool) (s : State) : State := { s with evtDrift := driftDis }

end Sys2Proof.Machine
end

