-- ==== Sys2Proof/Machine/CruiseFsm.lean ====
section
/-! DEFINITION. The cruise FSM: CRUISE and its two phases (43_cruise_fsm.md). -/

namespace Sys2Proof.Machine

/-- A quiet period is running at `now` (R101). -/
def quiet (now : Nat) (s : State) : Bool :=
  s.dbValid && decide (elapsed s.cfg now s.dbTime < debounceTicks s.cfg)

/-- A falling edge of the active-low button: not pressed before, pressed now (R102). -/
def edgeSeen (pressed : Bool) (s : State) : Bool := pressed && !s.btnPrev

/-- The edge is accepted (R103). -/
def toggles (pressed : Bool) (now : Nat) (s : State) : Bool := edgeSeen pressed s && !quiet now s

/-- The button phase (R101 to R104, R106, R111). -/
def buttonPhase (pressed : Bool) (now : Nat) (s : State) : State :=
  let toggle := toggles pressed now s
  let s1 := if quiet now s then s else forgetQuiet s
  let s2 := if toggle then acceptEdge now s1 else s1
  writeButton pressed (writeToggleFlag toggle s2)

/-- `drift = abs(sp - sp_prev) > DRIFT`, on the numerators (R105, R113). -/
def driftHolds (s : State) : Bool :=
  decide (s.cfg.driftNum * s.cfg.rawMax < absDiff s.spNum s.spPrevNum * s.cfg.driftDen)

/-- Drift that moves the state from Engaged to Disengaged (R107, R108). -/
def driftDisengages (s : State) : Bool := driftHolds s && decide (s.cruise = .engaged)

/-- The drift phase (R105, R107 to R109, R111). -/
def driftPhase (s : State) : State :=
  let driftDis := driftDisengages s
  let s1 := if driftDis then disengage s else s
  rememberSetpoint (writeDriftFlag driftDis s1)

/-- CRUISE (R112): the button phase first, then the drift phase against the state it left (R110). -/
def execCruise (pressed : Bool) (now : Nat) (s : State) : Out := .next (driftPhase (buttonPhase pressed now s))

end Sys2Proof.Machine
end

