-- ==== Sys2Proof/Machine/DeadZone.lean ====
section
/-! DEFINITION. The dead-zone filter unit: POTCOND (42_dead_zone_filter.md). -/

namespace Sys2Proof.Machine

/-- `DeadZone(r)` as the numerator over RAW_MAX (R95): scale (R91), clamp (R92), dead zone (R93). -/
def deadZoneNum (c : Config) (raw : Nat) : Nat :=
  let n1 := min (raw * c.tsm) (c.rawMax * c.tsm)
  if n1 * c.dzDen < c.dzNum * c.rawMax then 0 else n1

/-- Condition one raw sample into `sp` (R94). -/
def condition (raw : Nat) (s : State) : State := writeSetpoint (deadZoneNum s.cfg raw) s

/-- POTCOND (R94). -/
def execPotcond (raw : Nat) (s : State) : Out := .next (condition raw s)

end Sys2Proof.Machine
end

