-- ==== Sys2Proof/Machine/Operands.lean ====
section
/-! DEFINITION. The values that operations take from registers, as exact rationals: the hardware's formats (R57, R58), the rational
each stands for, the source select (R116), and the output ports (R37, R60). The operands of the command word itself (`pressed`,
`raw`, `now`, R62) are the arguments of the meanings. -/

namespace Sys2Proof.Machine

/-- `sp` in the hardware's format, `sp_num / RAW_MAX` (R57). -/
def setpointFrac (s : State) : Frac := ⟨s.spNum, s.cfg.rawMax⟩

/-- `sp_prev` in the hardware's format (R25, R57). -/
def prevSetpointFrac (s : State) : Frac := ⟨s.spPrevNum, s.cfg.rawMax⟩

/-- `speed` in the hardware's format: 0 without a sample, else `60 * TICKS_PER_SECOND / spd_period` (R58). -/
def speedFrac (s : State) : Frac := if s.spdNz then ⟨60 * s.cfg.ticksPerSecond, s.spdPeriod⟩ else ⟨0, 1⟩

/-- The rational setpoint `sp` in RPM (R20). -/
def State.sp (s : State) : ℚ := (setpointFrac s).toRat

/-- The rational previous setpoint `sp_prev` in RPM (R25). -/
def State.spPrev (s : State) : ℚ := (prevSetpointFrac s).toRat

/-- The rational speed sample `speed` in RPM (R16). -/
def State.speed (s : State) : ℚ := (speedFrac s).toRat

/-- Source select (R116): `speed` when Engaged, `sp` when Disengaged. -/
def sourceSelect (s : State) : Frac :=
  match s.cruise with
  | .engaged => speedFrac s
  | .disengaged => setpointFrac s

/-- The code of CruiseState on its port: Disengaged = 0, Engaged = 1 (R56). -/
def cruiseBit : CruiseState → Nat
  | .disengaged => 0
  | .engaged => 1

/-- The output ports (R37, R50, R60), but for `cmd_ready` (entry 6). -/
structure Outputs where
  rdVal : Nat
  fresh : Bool
  degen : Bool
  spdNz : Bool
  spdPeriod : Nat
  spNum : Nat
  cruise : Nat
  evtToggle : Bool
  evtDrift : Bool
  duty : Nat
  tgt : Nat
  deriving DecidableEq, Repr

/-- The ports show the registers directly and at all times (R60); `duty` equals `cur` (R30). -/
def State.outputs (s : State) : Outputs where
  rdVal := s.rdVal
  fresh := s.fresh
  degen := s.degen
  spdNz := s.spdNz
  spdPeriod := s.spdPeriod
  spNum := s.spNum
  cruise := cruiseBit s.cruise
  evtToggle := s.evtToggle
  evtDrift := s.evtDrift
  duty := s.cur
  tgt := s.tgt

end Sys2Proof.Machine
end

