-- ==== Sys2Proof/Machine/SlewLimiter.lean ====
section
/-! DEFINITION. The slew-rate limiter: SLEW (44_slew_limiter.md). -/

namespace Sys2Proof.Machine

/-- `DutyTarget(v)` of the exact rational `v` (R117 to R119, R123): `v * MAX_DUTY / TSR`, below one unit snapped to 0, else its floor,
at most `MAX_DUTY`. -/
def dutyTarget (c : Config) (v : Frac) : Nat :=
  if v.num * c.maxDuty < v.den * c.tsr then 0 else min (v.num * c.maxDuty / (v.den * c.tsr)) c.maxDuty

/-- `SlewStep(c, t)` (R120). Natural subtraction stops at 0, which the `max` with `t` makes exact. -/
def slewStep (c : Config) (cur t : Nat) : Nat :=
  if cur < t then min (cur + c.dutyStep) t
  else if t < cur then max (cur - c.dutyStep) t
  else cur

/-- One motor command (R122). -/
def motorCommand (s : State) : State :=
  let t := dutyTarget s.cfg (sourceSelect s)
  writeDuty t (slewStep s.cfg s.cur t) s

/-- SLEW (R122). -/
def execSlew (s : State) : Out := .next (motorCommand s)

end Sys2Proof.Machine
end

