-- ==== Sys2Proof/Machine/SpeedEstimator.lean ====
section
/-! DEFINITION. The speed estimator unit: OBSERVE (41_speed_estimator.md). -/

namespace Sys2Proof.Machine

/-- What follows the accumulation of an OBSERVE: below the threshold (R82), degenerate interval (R85), or a sample (R83, R84). -/
def estimate (now : Nat) (s : State) : State :=
  if s.acc < s.cfg.ppr then writeObserveFlags false false s
  else if elapsed s.cfg now s.ts < s.cfg.minElapsed then writeObserveFlags false true s
  else writeObserveFlags true false (writeSample now (elapsed s.cfg now s.ts) s)

/-- One observation (R87): read, reset and accumulate (R81), then estimate. -/
def observation (now : Nat) (s : State) : State := estimate now (readAndDeliver s)

/-- OBSERVE (R87). -/
def execObserve (now : Nat) (s : State) : Out := .next (observation now s)

end Sys2Proof.Machine
end

