-- ==== Sys2Proof/Machine/ControlCycle.lean ====
section
/-! DEFINITION. The control cycle: CYCLE, NOP (45_control_cycle.md), and the reserved code (R54). -/

namespace Sys2Proof.Machine

/-- CYCLE (R134): sub-steps a to f of R131, in that order, with one `now`, one `pressed` and one `raw` (R133). -/
def execCycle (pressed : Bool) (raw now : Nat) (s : State) : Out :=
  .next (motorCommand (driftPhase (condition raw (buttonPhase pressed now (observation now s)))))

/-- NOP (R135). -/
def execNop (s : State) : Out := .next s

/-- op 111 (R54): "The hardware treats it as NOP: no register changes." Entry 2. -/
def execReserved111 (s : State) : Out := .next s

end Sys2Proof.Machine
end

