-- ==== Sys2Proof/Machine/PulseCounter.lean ====
section
/-! DEFINITION. The pulse counter unit: PULSE and RDRST (40_pulse_counter.md). -/

namespace Sys2Proof.Machine

/-- PULSE (R71): always enabled; the increment wraps at `2^CNT_W`, as the hardware does (R75; entry 1). -/
def execPulse (s : State) : Out := .next (bumpCount s)

/-- RDRST (R73): no flag, no sample, whatever `acc` becomes. -/
def execRdrst (s : State) : Out := .next (readAndDeliver s)

end Sys2Proof.Machine
end

