-- ==== Sys2Proof/Machine/Dispatch.lean ====
section
/-! DEFINITION. One arm for each operation of the block. -/

namespace Sys2Proof.Machine

def exec (i : Instr) (s : State) : Host.Outcome State Fault Refusal :=
  match i with
  | .pulse => Sys2Proof.Machine.execPulse s
  | .nop => Sys2Proof.Machine.execNop s
  | .rdrst => Sys2Proof.Machine.execRdrst s
  | .observe now => Sys2Proof.Machine.execObserve now s
  | .potcond raw => Sys2Proof.Machine.execPotcond raw s
  | .cruise pressed now => Sys2Proof.Machine.execCruise pressed now s
  | .slew => Sys2Proof.Machine.execSlew s
  | .cycle pressed raw now => Sys2Proof.Machine.execCycle pressed raw now s
  | .reserved111 => Sys2Proof.Machine.execReserved111 s

end Sys2Proof.Machine
end

