-- ==== Sys2Proof/Machine/Clock.lean ====
section
/-! DEFINITION. What one sample of the input ports does (R42, R50, R74, R147, R155, R156), and runs over a list of them. Written once
over the meaning of an operation, so that the core machine and the checked machine of R145 differ in that meaning only. -/

namespace Sys2Proof.Machine

/-- Go on with `k` from a next state; a stop stays a stop. -/
def andThen (o : Out) (k : State → Out) : Out :=
  match o with
  | .next s => k s
  | .fault r => .fault r
  | .refused r => .refused r

/-- The issued command word is decoded and run (R51, R52). -/
def issue (run : Instr → State → Out) (w : Nat) (s : State) : Out :=
  match decode s.cfg (.command w) with
  | .ok i => run i s
  | .error _ => .refused .commandTooWide

/-- The command part of a sample: a command is issued when `cmd_valid = 1` (R50). -/
def commandPart (run : Instr → State → Out) (p : InputSample) (s : State) : Out :=
  if p.cmdValid then issue run p.cmd s else .next s

/-- The pulse part of a sample (R59). -/
def pulsePart (run : Instr → State → Out) (p : InputSample) (s : State) : Out :=
  if p.pulse then run .pulse s else .next s

/-- One sample: reset beats everything (R156); else the command, then the PULSE, which is the order the hardware takes when both
fall in one clock period (R74; entry 5); a sample that raises nothing changes nothing (R153). -/
def clockWith (run : Instr → State → Out) (p : InputSample) (s : State) : Out :=
  if p.rst then .next (resetRegisters s)
  else andThen (commandPart run p s) (pulsePart run p)

/-- One sample, in the core machine. -/
def clockEdge (p : InputSample) (s : State) : Out := clockWith exec p s

/-- The samples of a list, one after another (R42, R171), stopping at the first stop. -/
def runWith (run : Instr → State → Out) : List InputSample → State → Out
  | [], s => .next s
  | p :: ps, s => andThen (clockWith run p s) (runWith run ps)

/-- A run of the core machine (R171). -/
def runSamples (ps : List InputSample) (s : State) : Out := runWith exec ps s

/-- The operations of a list, one after another (R42). -/
def execSeq : List Instr → State → Out
  | [], s => .next s
  | i :: is, s => andThen (exec i s) (execSeq is)

/-- One step over the pending samples: refuse a configuration that breaks R3 (R145); with nothing pending every register holds
(R153); else take the next sample. -/
def stepWith (run : Instr → State → Out) (s : State) : Out :=
  if s.cfg.Valid then
    match s.inputs with
    | [] => .next s
    | p :: ps => clockWith run p (setInputs ps s)
  else .refused .badConfig

/-- The sample that offers a port's value: a pulse event, or an issued command. -/
def sampleOf : PortWord → InputSample
  | .pulsePort v => { pulse := decide (v = 1) }
  | .command w => { cmdValid := true, cmd := w }

end Sys2Proof.Machine
end

