-- ==== Sys2Proof/Machine/Step.lean ====
section
/-! DEFINITION. The step of the core machine, and where it takes its next operation from. -/

namespace Sys2Proof.Machine

/-- One step: the next sample of the input ports, in the hardware's own behaviour. -/
def step (s : State) : Host.Outcome State Fault Refusal := stepWith exec s

/-- `s` with the table's word offered at the input ports next: the block fetches nothing (R12, R49); an operation arrives on a port
(entry 3). -/
def State.withFetchWord (s : State) (nbits w : Nat) : State :=
  setInputs (sampleOf (tableWord nbits w) :: s.inputs) s

end Sys2Proof.Machine
end

