-- ==== Sys2Proof/Machine/Checked.lean ====
section
/-! DEFINITION. The checked machine of R145: the core machine, but that it stops at the conditions "a model should flag although the
hardware does not". A claim that must not lean on a wrapped count (R75, U5) or on the reserved code doing nothing (R54, U6) is
stated over its runs. -/

namespace Sys2Proof.Machine

/-- An operation in the checked machine: a PULSE at `count = 2^CNT_W - 1` faults, the reserved code is refused (R145). -/
def checkedExec (i : Instr) (s : State) : Out :=
  match i with
  | .pulse => if s.count = countMax s.cfg then .fault .counterOverflow else exec .pulse s
  | .nop => exec .nop s
  | .rdrst => exec .rdrst s
  | .observe now => exec (.observe now) s
  | .potcond raw => exec (.potcond raw) s
  | .cruise pressed now => exec (.cruise pressed now) s
  | .slew => exec .slew s
  | .cycle pressed raw now => exec (.cycle pressed raw now) s
  | .reserved111 => .refused .reservedOp

/-- One sample, in the checked machine. -/
def checkedEdge (p : InputSample) (s : State) : Out := clockWith checkedExec p s

/-- A run of the checked machine. -/
def runChecked (ps : List InputSample) (s : State) : Out := runWith checkedExec ps s

/-- One step of the checked machine. -/
def checkedStep (s : State) : Out := stepWith checkedExec s

end Sys2Proof.Machine
end

