-- ==== Sys2Proof/Safety.lean ====
section
/-! DEFINITION. The terms that claims about the block use: the invariant of its state, the ledgers of a run (what it counted, read
and accepted), the duties of the environment that a claim may take as premises, and the second design of R89. -/

namespace Sys2Proof.Safety

open Sys2Proof.Machine

/-- Every register fits its width (R13 to R29). -/
structure WidthInv (s : State) : Prop where
  count_lt : s.count < 2 ^ s.cfg.cntW
  acc_lt : s.acc < 2 ^ s.cfg.cntW
  rdVal_lt : s.rdVal < 2 ^ s.cfg.cntW
  ts_lt : s.ts < 2 ^ s.cfg.timeW
  dbTime_lt : s.dbTime < 2 ^ s.cfg.timeW
  spdPeriod_lt : s.spdPeriod < 2 ^ s.cfg.timeW

/-- The numerator of a setpoint is in range, and is one the filter produces: 0, or at least `DZ` and the clamped scaling of a raw
sample that fits its field (R20, R36, R57; spec/95_test_vectors.md section 4, line 4). -/
def SetpointInRange (c : Config) (n : Nat) : Prop :=
  n ≤ c.rawMax * c.tsm ∧
    (n = 0 ∨ (c.dzNum * c.rawMax ≤ n * c.dzDen ∧
      ∃ raw, rawFits c raw = true ∧ n = min (raw * c.tsm) (c.rawMax * c.tsm)))

/-- The invariant of the state (R16, R20, R36, R58). -/
structure StateInv (s : State) : Prop where
  valid : s.cfg.Valid
  width : WidthInv s
  no_sample : s.spdNz = false → s.spdPeriod = 0
  sample : s.spdNz = true → s.cfg.minElapsed ≤ s.spdPeriod
  sp_range : SetpointInRange s.cfg s.spNum
  spPrev_range : SetpointInRange s.cfg s.spPrevNum
  cur_le : s.cur ≤ s.cfg.maxDuty
  tgt_le : s.tgt ≤ s.cfg.maxDuty

/-- The sample's `cmd` fits the port (R50). -/
def SampleFits (c : Config) (p : InputSample) : Prop := p.cmd < 2 ^ cmdWidth c

/-- The operation that the command part of a sample issues, if any. -/
def issuedCommand (c : Config) (p : InputSample) : Option Instr :=
  if p.rst then none
  else if p.cmdValid then
    match decode c (.command p.cmd) with
    | .ok i => some i
    | .error _ => none
  else none

/-- Commands that perform a read-and-reset (R72, R76). -/
def readsCounter : Instr → Bool
  | .rdrst => true
  | .observe _ => true
  | .cycle _ _ _ => true
  | .pulse => false
  | .nop => false
  | .potcond _ => false
  | .cruise _ _ => false
  | .slew => false
  | .reserved111 => false

/-- Commands that update the cruise FSM (R100). -/
def updatesCruise : Instr → Bool
  | .cruise _ _ => true
  | .cycle _ _ _ => true
  | .pulse => false
  | .nop => false
  | .rdrst => false
  | .observe _ => false
  | .potcond _ => false
  | .slew => false
  | .reserved111 => false

/-- The timestamp a command carries for the cruise FSM. -/
def cruiseNow : Instr → Option Nat
  | .cruise _ now => some now
  | .cycle _ _ now => some now
  | .pulse => none
  | .nop => none
  | .rdrst => none
  | .observe _ => none
  | .potcond _ => none
  | .slew => none
  | .reserved111 => none

/-- The state a step leaves, or the state before it where it stops. -/
def stateAfter (o : Out) (s : State) : State :=
  match o with
  | .next t => t
  | .fault _ => s
  | .refused _ => s

/-- The PULSE events of a run since its last reset (R43, U13). -/
def pulsesSince (start : Nat) : List InputSample → Nat
  | [] => start
  | p :: ps => pulsesSince (if p.rst then 0 else start + bitOf p.pulse) ps

/-- The value a sample's read-and-reset returns in state `s`; 0 where it performs none. -/
def valueRead (p : InputSample) (s : State) : Nat :=
  match issuedCommand s.cfg p with
  | some i => if readsCounter i then s.count else 0
  | none => 0

/-- The sum of the values returned by every `AtomicReadReset()` of a run since its last reset (R43, U13). -/
def readsSince (start : Nat) : List InputSample → State → Nat
  | [], _ => start
  | p :: ps, s => readsSince (if p.rst then 0 else start + valueRead p s) ps (stateAfter (clockEdge p s) s)

/-- The timestamp a command carries for the estimator (R80). -/
def observeNow : Instr → Option Nat
  | .observe now => some now
  | .cycle _ _ now => some now
  | .pulse => none
  | .nop => none
  | .rdrst => none
  | .potcond _ => none
  | .cruise _ _ => none
  | .slew => none
  | .reserved111 => none

/-- The pulses a sample of the ports uses up in `s`: all of `acc + count` where its command produces a speed sample, that is where
the threshold is reached and the interval is not degenerate (R84, R86); else 0. -/
def clearedBy (p : InputSample) (s : State) : Nat :=
  match (issuedCommand s.cfg p).bind observeNow with
  | some now => if s.cfg.ppr ≤ s.acc + s.count ∧ s.cfg.minElapsed ≤ elapsed s.cfg now s.ts then s.acc + s.count else 0
  | none => 0

/-- The pulses that produced samples of a run have used up since its last reset (spec/95_test_vectors.md section 4, line 2). -/
def clearedSince (start : Nat) : List InputSample → State → Nat
  | [], _ => start
  | p :: ps, s => clearedSince (if p.rst then 0 else start + clearedBy p s) ps (stateAfter (clockEdge p s) s)

/-- The accumulator does not saturate in a run (R14): no delivery finds `acc + count` above `2^CNT_W - 1`. -/
def NeverSaturates : List InputSample → State → Prop
  | [], _ => True
  | p :: ps, s =>
    (∀ i, issuedCommand s.cfg p = some i → readsCounter i = true → s.acc + s.count ≤ countMax s.cfg) ∧
      NeverSaturates ps (stateAfter (clockEdge p s) s)

/-- `count` never wraps in a run (R43, R75): no PULSE finds `count = 2^CNT_W - 1`. In the clock period of a command the PULSE
follows it (R74). -/
def NeverWraps : List InputSample → State → Prop
  | [], _ => True
  | p :: ps, s =>
    (p.rst = false → p.pulse = true → (stateAfter (commandPart exec p s) s).count ≠ countMax s.cfg) ∧
      NeverWraps ps (stateAfter (clockEdge p s) s)

/-- The `now` of every accepted button edge of a run, in order (R103, R104). -/
def acceptedEdges : List InputSample → State → List Nat
  | [], _ => []
  | p :: ps, s =>
    let t := stateAfter (clockEdge p s) s
    match (issuedCommand s.cfg p).bind cruiseNow with
    | some now => if t.evtToggle then now :: acceptedEdges ps t else acceptedEdges ps t
    | none => acceptedEdges ps t

/-- The timestamps a run gives to the cruise FSM, in order. -/
def cruiseTimes (c : Config) (ps : List InputSample) : List Nat :=
  ps.filterMap fun p => (issuedCommand c p).bind cruiseNow

/-- The consumer's duty of R161: timestamps never go backwards, without wrap. -/
def MonotoneTimes (c : Config) (ps : List InputSample) : Prop := (cruiseTimes c ps).Pairwise (· ≤ ·)

/-- No reset in a list of samples. -/
def NoReset (ps : List InputSample) : Prop := ∀ p ∈ ps, p.rst = false

/-- `n` SLEW operations in a row. -/
def slewTimes (n : Nat) (s : State) : Out := execSeq (List.replicate n .slew) s

/-! ### The design of R89 that resets its counter only at the threshold -/

/-- Its state: all pulses in one unbounded counter, and the estimator's results. -/
structure ThresholdDesign where
  total : Nat
  ts : Nat
  spdNz : Bool
  spdPeriod : Nat
  fresh : Bool
  degen : Bool
  deriving DecidableEq, Repr

/-- What it does with a PULSE, with an observation (an OBSERVE, or the one inside a CYCLE), and with any other operation: RDRST
does nothing to it, because it reads and resets its counter only when the counter has reached the threshold. -/
def ThresholdDesign.apply (c : Config) (i : Instr) (d : ThresholdDesign) : ThresholdDesign :=
  if i = .pulse then { d with total := d.total + 1 }
  else
    match observeNow i with
    | some now =>
      if d.total < c.ppr then { d with fresh := false, degen := false }
      else if elapsed c now d.ts < c.minElapsed then { d with fresh := false, degen := true }
      else { d with total := 0, ts := now, spdNz := true, spdPeriod := elapsed c now d.ts, fresh := true, degen := false }
    | none => d

/-- What the estimator shows: `fresh`, the speed sample, `degen`, and the sample's timestamp. -/
structure EstimatorView where
  fresh : Bool
  spdNz : Bool
  spdPeriod : Nat
  degen : Bool
  ts : Nat
  deriving DecidableEq, Repr

/-- The view of the design of R89. -/
def ThresholdDesign.view (d : ThresholdDesign) : EstimatorView := ⟨d.fresh, d.spdNz, d.spdPeriod, d.degen, d.ts⟩

/-- The view of this block. -/
def estimatorView (s : State) : EstimatorView := ⟨s.fresh, s.spdNz, s.spdPeriod, s.degen, s.ts⟩

/-- What the estimator shows after each operation of a list, in this block. -/
def viewTrace : List Instr → State → List EstimatorView
  | [], _ => []
  | i :: is, s => estimatorView (stateAfter (exec i s) s) :: viewTrace is (stateAfter (exec i s) s)

/-- What the estimator shows after each operation of a list, in the design of R89. -/
def thresholdTrace (c : Config) : List Instr → ThresholdDesign → List EstimatorView
  | [], _ => []
  | i :: is, d => (d.apply c i).view :: thresholdTrace c is (d.apply c i)

/-- `count` never wraps in a list of operations (R75). -/
def NeverWrapsSeq : List Instr → State → Prop
  | [], _ => True
  | i :: is, s => (i = .pulse → s.count ≠ countMax s.cfg) ∧ NeverWrapsSeq is (stateAfter (exec i s) s)

end Sys2Proof.Safety
end

