-- ==== Sys2Proof/Certificates/Slice0/Obligations.lean ====
section
/-! DEFINITION. The statements for the provers. Each docstring names the rule of spec/ that the statement formalises. "R<n>" alone is a
rule the statement states; a model's own choice is named with its log entry. -/

open Sys2Proof Sys2Proof.Machine Sys2Proof.Safety

/-! ### Pulse counter unit -/

/-- R71: PULSE adds one to `count` modulo `2^CNT_W` in every state, changes nothing else, and is what `pulse = 1` means. -/
def Obligations.PulseIncrementsCountModuloWidth : Prop :=
  (∀ s : State, exec .pulse s = .next { s with count := (s.count + 1) % 2 ^ s.cfg.cntW }) ∧
  (∀ (c : Config) (v : Nat), decode c (.pulsePort v) = .ok .pulse ↔ v = 1)

/-- R72, R73: RDRST clears `count`, shows the value read on `rd_val`, adds it to the saturating `acc`, and changes nothing else; a
second RDRST reads 0 and leaves `acc`. -/
def Obligations.RdrstReadsClearsAndDelivers : Prop :=
  ∀ s : State, ∃ t u,
    exec .rdrst s = .next t ∧
    t = { s with count := 0, rdVal := s.count, acc := min (s.acc + s.count) (2 ^ s.cfg.cntW - 1) } ∧
    exec .rdrst t = .next u ∧ u = { t with rdVal := 0 }

/-- R75: `n` PULSE events with no read-and-reset between them leave `count + n` modulo `2^CNT_W`, so that the hardware wraps at
`2^CNT_W - 1`; the checked machine faults there instead. The core machine's wrap is entry 1. -/
def Obligations.PulsesWithoutAReadWrapAndAreFlagged : Prop :=
  (∀ (n : Nat) (s : State), s.count < 2 ^ s.cfg.cntW →
    execSeq (List.replicate n .pulse) s = .next { s with count := (s.count + n) % 2 ^ s.cfg.cntW }) ∧
  (∀ s : State, s.count = 2 ^ s.cfg.cntW - 1 →
    exec .pulse s = .next { s with count := 0 } ∧ checkedExec .pulse s = .fault .counterOverflow)

/-- R74: for a sample without reset, `count_next = (read ? 0 : count) + (pulse ? 1 : 0)` modulo `2^CNT_W`, and a read returns the value
`count` held before. -/
def Obligations.CoincidentPulseSurvivesTheRead : Prop :=
  ∀ (s : State) (p : InputSample) (ps : List InputSample), s.cfg.Valid → s.count < 2 ^ s.cfg.cntW →
    s.inputs = p :: ps → p.rst = false → SampleFits s.cfg p →
    ∃ t, step s = .next t ∧
      t.count = ((if ((issuedCommand s.cfg p).map readsCounter).getD false then 0 else s.count) + bitOf p.pulse) % 2 ^ s.cfg.cntW ∧
      (((issuedCommand s.cfg p).map readsCounter).getD false = true → t.rdVal = s.count)

/-- R74, R147 (2), U10: the two serial orders of a PULSE and a command. A command that does not read the counter commutes with PULSE;
for one that does, both orders keep the sum of the value returned and the value left. -/
def Obligations.BothOrdersOfPulseAndCommandKeepTheTotal : Prop :=
  (∀ (i : Instr) (s : State), readsCounter i = false → execSeq [i, .pulse] s = execSeq [.pulse, i] s) ∧
  (∀ (i : Instr) (s : State), readsCounter i = true → s.count < 2 ^ s.cfg.cntW - 1 →
    ∃ a b, execSeq [i, .pulse] s = .next a ∧ execSeq [.pulse, i] s = .next b ∧
      a.rdVal = s.count ∧ a.count = 1 ∧ b.rdVal = s.count + 1 ∧ b.count = 0)

/-- R43: conservation. In every run from reset in which `count` never wraps, the PULSE events since the last reset are `count` plus the
sum of the values returned by every read-and-reset. -/
def Obligations.PulsesAreConserved : Prop :=
  ∀ (ps : List InputSample) (s t : State), s.cfg.Valid →
    runSamples ps (resetRegisters s) = .next t → NeverWraps ps (resetRegisters s) →
    pulsesSince 0 ps = t.count + readsSince 0 ps (resetRegisters s)

/-- spec/95_test_vectors.md section 4, line 2 (from R73, R81, R84): where `acc` does not saturate either, the PULSE events are `count`
plus `acc` plus the pulses that produced samples have cleared. -/
def Obligations.PulsesAreAccountedForByTheEstimator : Prop :=
  ∀ (ps : List InputSample) (s t : State), s.cfg.Valid →
    runSamples ps (resetRegisters s) = .next t → NeverWraps ps (resetRegisters s) → NeverSaturates ps (resetRegisters s) →
    pulsesSince 0 ps = t.count + t.acc + clearedSince 0 ps (resetRegisters s)

/-! ### Speed estimator unit -/

/-- R81, R82: below the threshold OBSERVE moves the pulses into `acc`, keeps the sample and its timestamp, and clears both flags. -/
def Obligations.ObserveBelowThresholdKeepsTheSample : Prop :=
  ∀ (s : State) (now : Nat), s.cfg.Valid → s.acc + s.count < s.cfg.ppr →
    exec (.observe now) s =
      .next { s with count := 0, rdVal := s.count, acc := s.acc + s.count, fresh := false, degen := false }

/-- R83, R84, R86: at the threshold, with enough elapsed time, OBSERVE produces `speed = 60 / elapsed seconds`, exactly, whatever
`acc` was, and clears `acc`. -/
def Obligations.ObserveAtThresholdProducesTheSample : Prop :=
  ∀ (s : State) (now : Nat), s.cfg.Valid → s.cfg.ppr ≤ s.acc + s.count →
    let e : Nat := (((now : Int) - (s.ts : Int)) % ((2 ^ s.cfg.timeW : Nat) : Int)).toNat
    s.cfg.minElapsed ≤ e →
    ∃ t, exec (.observe now) s = .next t ∧
      t = { s with count := 0, rdVal := s.count, acc := 0, ts := now, spdNz := true, spdPeriod := e,
                   fresh := true, degen := false } ∧
      t.speed = 60 / ((e : ℚ) / (s.cfg.ticksPerSecond : ℚ))

/-- R85: at the threshold, with too little elapsed time, OBSERVE produces no sample, keeps `acc` at or above the threshold and sets
`degen`; a later OBSERVE with enough elapsed time produces it, measured from the same `ts`. -/
def Obligations.ObserveDegenerateIntervalIsRetried : Prop :=
  ∀ (s : State) (now : Nat), s.cfg.Valid → s.cfg.ppr ≤ s.acc + s.count → elapsed s.cfg now s.ts < s.cfg.minElapsed →
    ∃ t, exec (.observe now) s = .next t ∧
      t = { s with count := 0, rdVal := s.count, acc := min (s.acc + s.count) (2 ^ s.cfg.cntW - 1), fresh := false,
                   degen := true } ∧
      s.cfg.ppr ≤ t.acc ∧
      ∀ later, s.cfg.minElapsed ≤ elapsed s.cfg later s.ts →
        ∃ u, exec (.observe later) t = .next u ∧ u.fresh = true ∧ u.degen = false ∧ u.acc = 0 ∧ u.ts = later ∧
          u.spdNz = true ∧ u.spdPeriod = elapsed s.cfg later s.ts

/-- R89, first part: OBSERVE produces a sample exactly when `acc + count` has reached the threshold and the interval is not degenerate,
and then leaves no pulse; otherwise it leaves the total (where the accumulator can hold it). -/
def Obligations.ObserveComparesTheTotalWithTheThreshold : Prop :=
  ∀ (s : State) (now : Nat), s.cfg.Valid → ∃ t, exec (.observe now) s = .next t ∧
    (t.fresh = true ↔ s.cfg.ppr ≤ s.acc + s.count ∧ s.cfg.minElapsed ≤ elapsed s.cfg now s.ts) ∧
    (t.fresh = true → t.acc + t.count = 0) ∧
    (t.fresh = false → s.acc + s.count < 2 ^ s.cfg.cntW → t.acc + t.count = s.acc + s.count)

/-- R89: over every list of operations in which `count` never wraps, the estimator shows, after each operation, what a design shows
that keeps all pulses in one unbounded counter and resets it only at the threshold. -/
def Obligations.ThresholdDesignShowsTheSameSamples : Prop :=
  ∀ (is : List Instr) (s : State) (d : ThresholdDesign), s.cfg.Valid → WidthInv s →
    d.total = s.acc + s.count → d.view = estimatorView s → NeverWrapsSeq is s →
    viewTrace is s = thresholdTrace s.cfg is d

/-- spec/95_test_vectors.md section 4, line 9 (from R82, R84, R85): `speed` changes only in an operation that observes and sets
`fresh`, and then it is `60 * TICKS_PER_SECOND / e` with `e >= MIN_ELAPSED`. -/
def Obligations.SpeedChangesOnlyInAFreshSample : Prop :=
  ∀ (i : Instr) (s : State), s.cfg.Valid → ∃ t, exec i s = .next t ∧
    (t.speed = s.speed ∨
      ∃ now, observeNow i = some now ∧ t.fresh = true ∧ s.cfg.minElapsed ≤ elapsed s.cfg now s.ts ∧
        t.speed = 60 * (s.cfg.ticksPerSecond : ℚ) / (elapsed s.cfg now s.ts : ℚ))

/-! ### Dead-zone filter unit -/

/-- R91, R92, R93, R94: POTCOND scales the raw sample exactly, clamps it to `TSM`, forces it to 0 below `DZ`, and changes only `sp`. -/
def Obligations.PotcondFiltersTheExactScaledSample : Prop :=
  ∀ (s : State) (raw : Nat), s.cfg.Valid →
    let x0 : ℚ := (raw : ℚ) * (s.cfg.tsm : ℚ) / (s.cfg.rawMax : ℚ)
    let x1 : ℚ := min x0 (s.cfg.tsm : ℚ)
    ∃ t, exec (.potcond raw) s = .next t ∧ t = { s with spNum := t.spNum } ∧
      t.sp = if x1 < s.cfg.deadZone then 0 else x1

/-- R95: the integer form of the dead zone; for the defaults the test is true exactly for `r <= 10`. -/
def Obligations.PotcondIntegerForm : Prop :=
  (∀ (s : State) (raw : Nat), s.cfg.Valid →
    let n1 : Nat := min (raw * s.cfg.tsm) (s.cfg.rawMax * s.cfg.tsm)
    exec (.potcond raw) s =
      .next { s with spNum := if n1 * s.cfg.dzDen < s.cfg.dzNum * s.cfg.rawMax then 0 else n1 }) ∧
  (∀ (s : State) (raw : Nat), s.cfg = Config.default → raw < 2 ^ 10 →
    exec (.potcond raw) s = .next { s with spNum := if raw ≤ 10 then 0 else 20 * raw })

/-- R96: `sp` depends on `raw` and the parameters only; two POTCOND with the same `raw` leave the same `sp`, whatever ran between
them. -/
def Obligations.PotcondIsPure : Prop :=
  (∀ (s s' : State) (raw : Nat), s.cfg = s'.cfg →
    ∃ t t', exec (.potcond raw) s = .next t ∧ exec (.potcond raw) s' = .next t' ∧ t.sp = t'.sp) ∧
  ∀ (s : State) (raw : Nat) (between : List Instr), ∃ t u v,
    exec (.potcond raw) s = .next t ∧ execSeq between t = .next u ∧ exec (.potcond raw) u = .next v ∧ v.sp = t.sp

/-! ### Cruise FSM -/

/-- R101 to R112: what CRUISE does to the state machine, with the elapsed time, the debounce interval and the drift as exact numbers.
`c1` is Engaged just when exactly one of "Engaged before" and "toggled" holds. That the quiet period ends at R2's exact quotient,
also where it is no whole number of ticks, is the model's reading (DEDUCED, entry 8). -/
def Obligations.CruiseUpdatesTheStateMachine : Prop :=
  ∀ (s : State) (pressed : Bool) (now : Nat), s.cfg.Valid →
    let e : Int := ((now : Int) - (s.dbTime : Int)) % ((2 ^ s.cfg.timeW : Nat) : Int)
    let quietNow : Prop :=
      s.dbValid = true ∧ (e : ℚ) < (s.cfg.debounceInterval : ℚ) * (s.cfg.ticksPerSecond : ℚ) / 1000
    let toggle : Prop := pressed = true ∧ s.btnPrev = false ∧ ¬ quietNow
    let drift : Prop := |s.sp - s.spPrev| > s.cfg.drift
    let c1Engaged : Prop := (s.cruise = .engaged ↔ ¬ toggle)
    ∃ t, exec (.cruise pressed now) s = .next t ∧
      t = { s with cruise := t.cruise, dbValid := t.dbValid, dbTime := t.dbTime, btnPrev := pressed, spPrevNum := s.spNum,
                   evtToggle := t.evtToggle, evtDrift := t.evtDrift } ∧
      (t.evtToggle = true ↔ toggle) ∧
      (t.dbValid = true ↔ quietNow ∨ toggle) ∧
      (toggle → t.dbTime = now) ∧ (¬ toggle → t.dbTime = s.dbTime) ∧
      (t.evtDrift = true ↔ drift ∧ c1Engaged) ∧
      (t.cruise = .engaged ↔ c1Engaged ∧ ¬ drift)

/-- R113: the integer form of the drift test, for any two setpoints; for the defaults it is `abs(a - b) >= 512`, and for two raw
samples above the dead zone a difference of 26 or more. -/
def Obligations.DriftIntegerForm : Prop :=
  ∀ s : State, s.cfg.Valid →
    (|s.sp - s.spPrev| > s.cfg.drift ↔
      s.cfg.driftNum * s.cfg.rawMax < (if s.spPrevNum ≤ s.spNum then s.spNum - s.spPrevNum else s.spPrevNum - s.spNum) * s.cfg.driftDen) ∧
    (s.cfg = Config.default →
      (|s.sp - s.spPrev| > s.cfg.drift ↔ s.spPrevNum + 512 ≤ s.spNum ∨ s.spNum + 512 ≤ s.spPrevNum)) ∧
    (∀ r0 r1 : Nat, s.cfg = Config.default → 10 < r0 → 10 < r1 → s.spPrevNum = deadZoneNum s.cfg r0 →
      s.spNum = deadZoneNum s.cfg r1 → r0 < 1024 → r1 < 1024 →
      (|s.sp - s.spPrev| > s.cfg.drift ↔ r0 + 26 ≤ r1 ∨ r1 + 26 ≤ r0))

/-- R114, R108: in CRUISE and in CYCLE, Engaged afterwards means Engaged before with neither toggle nor drift, or Disengaged before with
a toggle and no drift; a toggle needs an edge outside a quiet period; drift leaves Disengaged. The quiet period's length where R2's
quotient is not whole is the model's reading (DEDUCED, entry 8). -/
def Obligations.CruiseTransitionsAreTheAllowedOnes : Prop :=
  ∀ (i : Instr) (s : State) (pressed : Bool) (now : Nat), s.cfg.Valid →
    (i = .cruise pressed now ∨ ∃ raw, i = .cycle pressed raw now) →
    ∃ t, exec i s = .next t ∧
      (t.cruise = .engaged →
        ((s.cruise = .engaged ∧ t.evtToggle = false) ∨ (s.cruise = .disengaged ∧ t.evtToggle = true)) ∧
          ¬ |t.sp - s.spPrev| > s.cfg.drift) ∧
      (t.evtToggle = true →
        pressed = true ∧ s.btnPrev = false ∧
          ¬ (s.dbValid = true ∧ elapsed s.cfg now s.dbTime < debounceTicks s.cfg)) ∧
      (|t.sp - s.spPrev| > s.cfg.drift → t.cruise = .disengaged)

/-- R101, R104 (spec/95_test_vectors.md section 4, line 7): in a run without reset whose timestamps never go backwards, two accepted
edges are at least `DEBOUNCE_INTERVAL` apart. The bound is R2's exact quotient, also where it is no whole number of ticks (DEDUCED,
entry 8). -/
def Obligations.AcceptedEdgesAreADebounceIntervalApart : Prop :=
  ∀ (ps : List InputSample) (s t : State), s.cfg.Valid → NoReset ps → MonotoneTimes s.cfg ps → runSamples ps s = .next t →
    (acceptedEdges ps s).Pairwise fun (a b : Nat) =>
      (a : ℚ) + (s.cfg.debounceInterval : ℚ) * (s.cfg.ticksPerSecond : ℚ) / 1000 ≤ (b : ℚ)

/-- R159: the first cycle after reset. A button already held engages; with the setpoint above `DRIFT` the same cycle disengages, with
both flags set; engaging without a sample makes the target 0; with the button not held drift has no effect. -/
def Obligations.FirstCycleAfterReset : Prop :=
  ∀ (s : State) (raw now : Nat), s.cfg.Valid →
    (∃ t, exec (.cycle true raw now) (resetRegisters s) = .next t ∧ t.evtToggle = true ∧
      (t.sp > s.cfg.drift → t.cruise = .disengaged ∧ t.evtDrift = true) ∧
      (¬ t.sp > s.cfg.drift → t.cruise = .engaged ∧ t.evtDrift = false ∧ t.tgt = 0)) ∧
    (∃ t, exec (.cycle false raw now) (resetRegisters s) = .next t ∧ t.evtToggle = false ∧ t.cruise = .disengaged ∧
      t.evtDrift = false)

/-! ### Slew limiter -/

/-- R116 to R120, R122: SLEW computes the exact duty of the selected source, clamps, snaps and floors it into `tgt`, moves `cur` one step
toward it, and changes nothing else. -/
def Obligations.SlewStepsTowardTheExactTarget : Prop :=
  ∀ s : State, s.cfg.Valid →
    let v : ℚ := if s.cruise = .engaged then s.speed else s.sp
    let d1 : ℚ := min (max (v * (s.cfg.maxDuty : ℚ) / (s.cfg.tsr : ℚ)) 0) (s.cfg.maxDuty : ℚ)
    let t : Nat := if d1 < 1 then 0 else ⌊d1⌋.toNat
    exec .slew s =
      .next { s with tgt := t,
                     cur := if s.cur < t then min (s.cur + s.cfg.dutyStep) t
                            else if s.cur > t then (max ((s.cur : Int) - (s.cfg.dutyStep : Int)) (t : Int)).toNat
                            else s.cur }

/-- R123: the integer forms of the target, from a setpoint and from a speed sample; for the defaults, the boundaries 3000 and 765000
ticks. -/
def Obligations.DutyTargetIntegerForms : Prop :=
  (∀ s : State, s.cfg.Valid → ∃ t, exec .slew s = .next t ∧
    (s.cruise = .disengaged → t.tgt = min (s.spNum * s.cfg.maxDuty / (s.cfg.rawMax * s.cfg.tsr)) s.cfg.maxDuty) ∧
    (s.cruise = .engaged → s.spdNz = false → t.tgt = 0) ∧
    (s.cruise = .engaged → s.spdNz = true → 0 < s.spdPeriod →
      t.tgt = min (60 * s.cfg.ticksPerSecond * s.cfg.maxDuty / (s.spdPeriod * s.cfg.tsr)) s.cfg.maxDuty)) ∧
  (∀ s : State, s.cfg = Config.default → s.cruise = .engaged → s.spdNz = true → 0 < s.spdPeriod →
    ∃ t, exec .slew s = .next t ∧ (s.spdPeriod ≤ 3000 ↔ t.tgt = 255) ∧ (s.spdPeriod > 765000 ↔ t.tgt = 0))

/-- R120 and R124, over every operation (spec/95_test_vectors.md section 4, line 3): `cur` moves by at most `DUTY_STEP`, only toward the
new target, never past it, and stays at most `MAX_DUTY`. -/
def Obligations.DutyChangesByAtMostOneStep : Prop :=
  ∀ (i : Instr) (s : State), s.cur ≤ s.cfg.maxDuty → ∃ t, exec i s = .next t ∧ t.cur ≤ t.cfg.maxDuty ∧
    |(t.cur : Int) - (s.cur : Int)| ≤ (s.cfg.dutyStep : Int) ∧
    (t.cur = s.cur ∨ (s.cur < t.cur ∧ t.cur ≤ t.tgt) ∨ (t.tgt ≤ t.cur ∧ t.cur < s.cur))

/-- R124: over a run of SLEW the target stays, `cur` moves by exactly `DUTY_STEP` per SLEW until the remaining distance is smaller,
reaches the target after `ceil(abs(cur - t) / DUTY_STEP)` operations, and stays. -/
def Obligations.SlewReachesItsTargetAndStays : Prop :=
  ∀ (n : Nat) (s t1 : State), s.cfg.Valid → exec .slew s = .next t1 →
    ∃ t, slewTimes (n + 1) s = .next t ∧ t = { t1 with cur := t.cur } ∧
      (s.cur ≤ t1.tgt → t.cur = min (s.cur + (n + 1) * s.cfg.dutyStep) t1.tgt) ∧
      (t1.tgt ≤ s.cur → (t.cur : Int) = max ((s.cur : Int) - ((n : Int) + 1) * (s.cfg.dutyStep : Int)) (t1.tgt : Int)) ∧
      (⌈(|((s.cur : Int) - (t1.tgt : Int))| : ℚ) / (s.cfg.dutyStep : ℚ)⌉ ≤ (n : Int) + 1 → t.cur = t1.tgt)

/-! ### Control cycle -/

/-- R131, R134: CYCLE runs OBSERVE, the button phase, POTCOND, the drift phase and SLEW, in that order. The two phases of CRUISE are
the model's `buttonPhase` and `driftPhase`, which together are CRUISE. -/
def Obligations.CycleRunsItsSubstepsInOrder : Prop :=
  ∀ (s : State) (pressed : Bool) (raw now : Nat), ∃ a c t,
    exec (.observe now) s = .next a ∧
    exec (.potcond raw) (buttonPhase pressed now a) = .next c ∧
    exec .slew (driftPhase c) = .next t ∧
    exec (.cycle pressed raw now) s = .next t ∧
    exec (.cruise pressed now) s = .next (driftPhase (buttonPhase pressed now s))

/-- R132: CYCLE leaves every register as OBSERVE, POTCOND, CRUISE, SLEW with the same operands leave it. -/
def Obligations.CycleEqualsItsFourCommands : Prop :=
  ∀ (s : State) (pressed : Bool) (raw now : Nat), ∃ t,
    exec (.cycle pressed raw now) s = .next t ∧
    execSeq [.observe now, .potcond raw, .cruise pressed now, .slew] s = .next t

/-- R132 and R44: PULSE events between the four commands have the effect of PULSE events after the CYCLE. -/
def Obligations.PulsesBetweenTheFourCommandsLandAfterTheCycle : Prop :=
  ∀ (s : State) (pressed : Bool) (raw now a b d : Nat),
    execSeq ([.observe now] ++ List.replicate a .pulse ++ [.potcond raw] ++ List.replicate b .pulse ++ [.cruise pressed now] ++
      List.replicate d .pulse ++ [.slew]) s =
    execSeq (.cycle pressed raw now :: List.replicate (a + b + d) .pulse) s

/-- R163: OBSERVE may stand anywhere before SLEW: it commutes with POTCOND and with CRUISE. -/
def Obligations.ObserveCommutesWithPotcondAndCruise : Prop :=
  ∀ (s : State) (pressed : Bool) (raw now : Nat),
    execSeq [.observe now, .potcond raw] s = execSeq [.potcond raw, .observe now] s ∧
    execSeq [.observe now, .cruise pressed now] s = execSeq [.cruise pressed now, .observe now] s

/-- R135: NOP changes nothing, whatever its ignored fields hold; a PULSE of the same sample still counts. -/
def Obligations.NopChangesNothing : Prop :=
  (∀ s : State, exec .nop s = .next s) ∧
  (∀ (s : State) (p : InputSample) (ps : List InputSample), s.cfg.Valid → s.inputs = p :: ps → p.rst = false →
    p.cmdValid = true → SampleFits s.cfg p → fieldOp s.cfg p.cmd = 0 →
    step s = if p.pulse then .next { s with count := (s.count + 1) % 2 ^ s.cfg.cntW, inputs := ps }
             else .next { s with inputs := ps })

/-- R54: the hardware treats every command word with `op = 111` as NOP; the checked machine refuses it. The core machine's NOP is
entry 2. -/
def Obligations.ReservedCodeChangesNothingAndIsFlagged : Prop :=
  (∀ s : State, exec .reserved111 s = .next s ∧ checkedExec .reserved111 s = .refused .reservedOp) ∧
  (∀ (c : Config) (w : Nat), w < 2 ^ cmdWidth c → (decode c (.command w) = .ok .reserved111 ↔ fieldOp c w = 7))

/-! ### Encoding -/

/-- Decode and encode agree, for every well-formed operation under every parameters (R51 to R53). -/
def Obligations.DecodeOfEncodeIsTheOperation : Prop :=
  ∀ (c : Config) (i : Instr), i.wellFormed c = true → decode c (encode c i) = .ok i

/-- R51, R52, R53, R55: the fields tile the command word; `op` alone selects the command; two words that agree on `op` and on the fields
their command uses decode alike; what is decoded is well formed; every word that fits the port decodes. -/
def Obligations.OnlyOpAndUsedFieldsDecode : Prop :=
  ∀ (c : Config) (w : Nat), w < 2 ^ cmdWidth c →
    w = (fieldOp c w).val * 2 ^ (3 + c.adcW + c.timeW) + bitOf (fieldPressed c w) * 2 ^ (2 + c.adcW + c.timeW) +
        fieldReserved c w * 2 ^ (c.adcW + c.timeW) + fieldRaw c w * 2 ^ c.timeW + fieldNow c w ∧
    (∃ i, decode c (.command w) = .ok i ∧ i.wellFormed c = true) ∧
    (∀ w' : Nat, w' < 2 ^ cmdWidth c → fieldOp c w' = fieldOp c w →
      (fieldOp c w = 4 ∨ fieldOp c w = 6 → fieldPressed c w' = fieldPressed c w) →
      (fieldOp c w = 3 ∨ fieldOp c w = 6 → fieldRaw c w' = fieldRaw c w) →
      (fieldOp c w = 2 ∨ fieldOp c w = 4 ∨ fieldOp c w = 6 → fieldNow c w' = fieldNow c w) →
      decode c (.command w') = decode c (.command w))

/-- R61: the encodings of the statements, for the defaults, at every operand value. -/
def Obligations.StatementsHaveTheirEncodings : Prop :=
  encode Config.default .pulse = .pulsePort 1 ∧
  encode Config.default .nop = .command 0x000000000000 ∧
  encode Config.default .rdrst = .command 0x200000000000 ∧
  (∀ now, encode Config.default (.observe now) = .command (0x400000000000 + now)) ∧
  (∀ raw, encode Config.default (.potcond raw) = .command (0x600000000000 + raw * 2 ^ 32)) ∧
  (∀ pressed now, encode Config.default (.cruise pressed now) = .command (0x800000000000 + bitOf pressed * 2 ^ 44 + now)) ∧
  encode Config.default .slew = .command 0xA00000000000 ∧
  (∀ pressed raw now, encode Config.default (.cycle pressed raw now) =
    .command (0xC00000000000 + bitOf pressed * 2 ^ 44 + raw * 2 ^ 32 + now)) ∧
  encode Config.default .reserved111 = .command 0xE00000000000

/-- spec/95_test_vectors.md section 2.7: the decoding table's words. -/
def Obligations.DecodingTableWordsDecode : Prop :=
  decode Config.default (.command 0x000000000000) = .ok .nop ∧
  decode Config.default (.command 0x200000000000) = .ok .rdrst ∧
  decode Config.default (.command 0x4000000005DC) = .ok (.observe 1500) ∧
  decode Config.default (.command 0x620000000000) = .ok (.potcond 512) ∧
  decode Config.default (.command 0x9000000004B0) = .ok (.cruise true 1200) ∧
  decode Config.default (.command 0xA00000000000) = .ok .slew ∧
  decode Config.default (.command 0xD2BC000003E8) = .ok (.cycle true 700 1000) ∧
  decode Config.default (.command 0xC3FFFFFFFFFF) = .ok (.cycle false 1023 0xFFFFFFFF) ∧
  decode Config.default (.command 0x7C0000000000) = .ok (.potcond 0) ∧
  decode Config.default (.command 0xE00000000000) = .ok .reserved111 ∧
  decode Config.default (.pulsePort 1) = .ok .pulse

/-! ### The machine -/

/-- R35, R155, R156: a sample with `rst = 1` gives every register its reset value, whatever command or PULSE arrives with it, and the
`duty` port shows 0. The state after reset is that state; that it holds the default parameters and no pending sample is the model's
choice (entries 3, 4). -/
def Obligations.ResetGivesEveryRegisterItsResetValue : Prop :=
  (∀ (s : State) (p : InputSample) (ps : List InputSample), s.cfg.Valid → s.inputs = p :: ps → p.rst = true →
    step s = .next
      { cfg := s.cfg, count := 0, acc := 0, ts := 0, spdNz := false, spdPeriod := 0, rdVal := 0, fresh := false, degen := false,
        spNum := 0, cruise := .disengaged, dbValid := false, dbTime := 0, btnPrev := false, spPrevNum := 0, evtToggle := false,
        evtDrift := false, cur := 0, tgt := 0, inputs := ps }) ∧
  State.reset =
    { cfg := Config.default, count := 0, acc := 0, ts := 0, spdNz := false, spdPeriod := 0, rdVal := 0, fresh := false, degen := false,
      spNum := 0, cruise := .disengaged, dbValid := false, dbTime := 0, btnPrev := false, spPrevNum := 0, evtToggle := false,
      evtDrift := false, cur := 0, tgt := 0, inputs := [] } ∧
  State.reset.outputs.duty = 0

/-- R42, R50: when the pending sample issues a command word that decodes, the step is exec of that operation, followed by exec of PULSE
where `pulse = 1`; a sample with a PULSE alone is exec of PULSE. The list of samples is entry 3, the order entry 5. -/
def Obligations.StepRunsTheDecodedOperation : Prop :=
  ∀ (s : State) (p : InputSample) (ps : List InputSample), s.cfg.Valid → s.inputs = p :: ps → p.rst = false →
    (∀ i, p.cmdValid = true → decode s.cfg (.command p.cmd) = .ok i →
      (p.pulse = false → step s = exec i { s with inputs := ps }) ∧
      (∀ u, p.pulse = true → exec i { s with inputs := ps } = .next u → step s = exec .pulse u)) ∧
    (p.cmdValid = false → p.pulse = true → step s = exec .pulse { s with inputs := ps })

/-- `withFetchWord` (the model's own, entry 10): the very next step decodes and runs the table's word. -/
def Obligations.StepRunsTheOfferedTableWord : Prop :=
  ∀ (s : State) (nbits w : Nat) (i : Instr), s.cfg = Config.default → decodeTableWord nbits w = some i →
    step (s.withFetchWord nbits w) = exec i s

/-- R153: when nothing arrives every register holds. -/
def Obligations.NothingArrivingHoldsEveryRegister : Prop :=
  (∀ s : State, s.cfg.Valid → s.inputs = [] → step s = .next s) ∧
  (∀ (s : State) (p : InputSample) (ps : List InputSample), s.cfg.Valid → s.inputs = p :: ps →
    p.rst = false → p.cmdValid = false → p.pulse = false → step s = .next { s with inputs := ps })

/-- R3, R140: a step is refused as BadConfig just when the parameters break R3; otherwise it answers a next state just when the pending
sample's command fits the port. The hardware has no fault: no step faults. -/
def Obligations.EveryStepCompletes : Prop :=
  (∀ s : State, step s = .refused .badConfig ↔ ¬ s.cfg.Valid) ∧
  (∀ s : State, s.cfg.Valid →
    ((∃ t, step s = .next t) ↔ ∀ p ps, s.inputs = p :: ps → p.rst = false → p.cmdValid = true → SampleFits s.cfg p)) ∧
  (∀ (s : State) (r : Fault), step s ≠ .fault r)

/-- R1: the parameters cannot change while the block runs: no step of the core or of the checked machine changes them. -/
def Obligations.ParametersNeverChange : Prop :=
  ∀ s t : State, step s = .next t ∨ checkedStep s = .next t → t.cfg = s.cfg

/-- R36 (with R13 to R29, R57, R58): every step keeps the invariant of the state. -/
def Obligations.StepKeepsTheStateInvariant : Prop :=
  ∀ s t : State, StateInv s → step s = .next t → StateInv t

/-- R35, R36: the state after reset meets the invariant, for the defaults and for every valid parameters. -/
def Obligations.ResetMeetsTheStateInvariant : Prop :=
  StateInv State.reset ∧ ∀ s : State, s.cfg.Valid → StateInv (resetRegisters s)

/-- R50: in every state that meets the invariant each output port's value fits the port's width; the widths for the defaults. -/
def Obligations.OutputsFitTheirPorts : Prop :=
  (∀ s : State, StateInv s →
    s.outputs.rdVal < 2 ^ s.cfg.cntW ∧ s.outputs.spdPeriod < 2 ^ s.cfg.timeW ∧ s.outputs.spNum < 2 ^ setpointWidth s.cfg ∧
    s.outputs.cruise < 2 ∧ s.outputs.duty < 2 ^ dutyWidth s.cfg ∧ s.outputs.tgt < 2 ^ dutyWidth s.cfg ∧
    s.outputs.duty = s.cur) ∧
  cmdWidth Config.default = 48 ∧ setpointWidth Config.default = 15 ∧ dutyWidth Config.default = 8

/-- R47, the column "writes": every operation answers a next state and leaves unchanged every register that the table does not say it
writes. -/
def Obligations.OperationsWriteOnlyTheirRegisters : Prop :=
  ∀ (i : Instr) (s : State), ∃ t, exec i s = .next t ∧ t.cfg = s.cfg ∧ t.inputs = s.inputs ∧
    (i ≠ .pulse → readsCounter i = false → t.count = s.count) ∧
    (readsCounter i = false → t.rdVal = s.rdVal ∧ t.acc = s.acc) ∧
    (observeNow i = none →
      t.ts = s.ts ∧ t.spdNz = s.spdNz ∧ t.spdPeriod = s.spdPeriod ∧ t.fresh = s.fresh ∧ t.degen = s.degen) ∧
    ((∀ raw, i ≠ .potcond raw) → (∀ pressed raw now, i ≠ .cycle pressed raw now) → t.spNum = s.spNum) ∧
    (updatesCruise i = false →
      t.cruise = s.cruise ∧ t.btnPrev = s.btnPrev ∧ t.spPrevNum = s.spPrevNum ∧ t.dbValid = s.dbValid ∧ t.dbTime = s.dbTime ∧
      t.evtToggle = s.evtToggle ∧ t.evtDrift = s.evtDrift) ∧
    (i ≠ .slew → (∀ pressed raw now, i ≠ .cycle pressed raw now) → t.tgt = s.tgt ∧ t.cur = s.cur)

/-- R47, the column "reads": what an operation writes depends only on the registers the table says it reads (a register that an OBSERVE
keeps, it keeps). -/
def Obligations.OperationsReadOnlyTheirRegisters : Prop :=
  ∀ s s' : State, s.cfg = s'.cfg →
    (s.count = s'.count → ∃ t t', exec .pulse s = .next t ∧ exec .pulse s' = .next t' ∧ t.count = t'.count) ∧
    (s.count = s'.count → s.acc = s'.acc → ∃ t t', exec .rdrst s = .next t ∧ exec .rdrst s' = .next t' ∧
      t.count = t'.count ∧ t.rdVal = t'.rdVal ∧ t.acc = t'.acc) ∧
    (∀ now, s.count = s'.count → s.acc = s'.acc → s.ts = s'.ts →
      ∃ t t', exec (.observe now) s = .next t ∧ exec (.observe now) s' = .next t' ∧
        t.count = t'.count ∧ t.rdVal = t'.rdVal ∧ t.acc = t'.acc ∧ t.ts = t'.ts ∧ t.fresh = t'.fresh ∧ t.degen = t'.degen ∧
        (t.fresh = true → t.speed = t'.speed)) ∧
    (∀ raw, ∃ t t', exec (.potcond raw) s = .next t ∧ exec (.potcond raw) s' = .next t' ∧ t.sp = t'.sp) ∧
    (∀ pressed now, s.cruise = s'.cruise → s.btnPrev = s'.btnPrev → s.spNum = s'.spNum → s.spPrevNum = s'.spPrevNum →
      s.dbValid = s'.dbValid → s.dbTime = s'.dbTime →
      ∃ t t', exec (.cruise pressed now) s = .next t ∧ exec (.cruise pressed now) s' = .next t' ∧
        t.cruise = t'.cruise ∧ t.btnPrev = t'.btnPrev ∧ t.spPrevNum = t'.spPrevNum ∧ t.dbValid = t'.dbValid ∧
        t.dbTime = t'.dbTime ∧ t.evtToggle = t'.evtToggle ∧ t.evtDrift = t'.evtDrift) ∧
    (s.cruise = s'.cruise → s.spdNz = s'.spdNz → s.spdPeriod = s'.spdPeriod → s.spNum = s'.spNum → s.cur = s'.cur →
      ∃ t t', exec .slew s = .next t ∧ exec .slew s' = .next t' ∧ t.tgt = t'.tgt ∧ t.cur = t'.cur)

/-- R47, the column "idempotent": NOP and POTCOND are; SLEW is once `cur = tgt`. -/
def Obligations.IdempotentOperations : Prop :=
  ∀ s : State,
    execSeq [.nop, .nop] s = exec .nop s ∧
    (∀ raw, execSeq [.potcond raw, .potcond raw] s = exec (.potcond raw) s) ∧
    (∃ t, exec .slew s = .next t ∧ (t.cur = t.tgt → exec .slew t = .next t))

/-- R42, R171: as many steps as there are samples before `rest` are the run over those samples (the list of samples is entry 3). -/
def Obligations.StepsRunThePendingSamples : Prop :=
  ∀ (ps rest : List InputSample) (s : State), s.cfg.Valid →
    Host.Core.run Sys2Proof.core ps.length { s with inputs := ps ++ rest } = runSamples ps { s with inputs := rest }

/-- R145, R74: the checked machine refuses a command with `op = 111`, faults on a PULSE at `count = 2^CNT_W - 1`, refuses a configuration
that breaks R3, and otherwise does what the core machine does. That within one sample the command comes before the PULSE, so that a
read lifts the overflow and ReservedOp wins over CounterOverflow, is the model's order (DESIGN CHOICE, entry 5); that a number wider
than the `cmd` port is no command, so that `SampleFits` is a premise, is entry 11 (DEDUCED). -/
def Obligations.CheckedMachineStopsExactlyAtTheFlaggedConditions : Prop :=
  (∀ (s : State) (p : InputSample) (ps : List InputSample), s.cfg.Valid → s.inputs = p :: ps → SampleFits s.cfg p →
    let reserved : Prop := issuedCommand s.cfg p = some .reserved111
    let overflow : Prop :=
      p.rst = false ∧ p.pulse = true ∧ ((issuedCommand s.cfg p).map readsCounter).getD false = false ∧ s.count = 2 ^ s.cfg.cntW - 1
    (reserved → checkedStep s = .refused .reservedOp) ∧
    (¬ reserved → overflow → checkedStep s = .fault .counterOverflow) ∧
    (¬ reserved → ¬ overflow → checkedStep s = step s ∧ ∃ t, step s = .next t)) ∧
  (∀ s : State, ¬ s.cfg.Valid → checkedStep s = .refused .badConfig)
end

