-- ==== Sys2Proof/Laws/State.lean ====
section
/-! SUPPORT. One lemma for each field of State under each register update of Machine/Ops.lean and Machine/Flags.lean, so that no later
proof unfolds a record update. -/

namespace Sys2Proof.Machine

/-! ### bumpCount -/

@[simp] theorem bumpCount_cfg (s : State) : (bumpCount s).cfg = s.cfg := rfl
@[simp] theorem bumpCount_count (s : State) : (bumpCount s).count = (s.count + 1) % 2 ^ s.cfg.cntW := rfl
@[simp] theorem bumpCount_acc (s : State) : (bumpCount s).acc = s.acc := rfl
@[simp] theorem bumpCount_ts (s : State) : (bumpCount s).ts = s.ts := rfl
@[simp] theorem bumpCount_spdNz (s : State) : (bumpCount s).spdNz = s.spdNz := rfl
@[simp] theorem bumpCount_spdPeriod (s : State) : (bumpCount s).spdPeriod = s.spdPeriod := rfl
@[simp] theorem bumpCount_rdVal (s : State) : (bumpCount s).rdVal = s.rdVal := rfl
@[simp] theorem bumpCount_fresh (s : State) : (bumpCount s).fresh = s.fresh := rfl
@[simp] theorem bumpCount_degen (s : State) : (bumpCount s).degen = s.degen := rfl
@[simp] theorem bumpCount_spNum (s : State) : (bumpCount s).spNum = s.spNum := rfl
@[simp] theorem bumpCount_cruise (s : State) : (bumpCount s).cruise = s.cruise := rfl
@[simp] theorem bumpCount_dbValid (s : State) : (bumpCount s).dbValid = s.dbValid := rfl
@[simp] theorem bumpCount_dbTime (s : State) : (bumpCount s).dbTime = s.dbTime := rfl
@[simp] theorem bumpCount_btnPrev (s : State) : (bumpCount s).btnPrev = s.btnPrev := rfl
@[simp] theorem bumpCount_spPrevNum (s : State) : (bumpCount s).spPrevNum = s.spPrevNum := rfl
@[simp] theorem bumpCount_evtToggle (s : State) : (bumpCount s).evtToggle = s.evtToggle := rfl
@[simp] theorem bumpCount_evtDrift (s : State) : (bumpCount s).evtDrift = s.evtDrift := rfl
@[simp] theorem bumpCount_cur (s : State) : (bumpCount s).cur = s.cur := rfl
@[simp] theorem bumpCount_tgt (s : State) : (bumpCount s).tgt = s.tgt := rfl
@[simp] theorem bumpCount_inputs (s : State) : (bumpCount s).inputs = s.inputs := rfl

/-! ### clearCount -/

@[simp] theorem clearCount_cfg (s : State) : (clearCount s).cfg = s.cfg := rfl
@[simp] theorem clearCount_count (s : State) : (clearCount s).count = 0 := rfl
@[simp] theorem clearCount_acc (s : State) : (clearCount s).acc = s.acc := rfl
@[simp] theorem clearCount_ts (s : State) : (clearCount s).ts = s.ts := rfl
@[simp] theorem clearCount_spdNz (s : State) : (clearCount s).spdNz = s.spdNz := rfl
@[simp] theorem clearCount_spdPeriod (s : State) : (clearCount s).spdPeriod = s.spdPeriod := rfl
@[simp] theorem clearCount_rdVal (s : State) : (clearCount s).rdVal = s.rdVal := rfl
@[simp] theorem clearCount_fresh (s : State) : (clearCount s).fresh = s.fresh := rfl
@[simp] theorem clearCount_degen (s : State) : (clearCount s).degen = s.degen := rfl
@[simp] theorem clearCount_spNum (s : State) : (clearCount s).spNum = s.spNum := rfl
@[simp] theorem clearCount_cruise (s : State) : (clearCount s).cruise = s.cruise := rfl
@[simp] theorem clearCount_dbValid (s : State) : (clearCount s).dbValid = s.dbValid := rfl
@[simp] theorem clearCount_dbTime (s : State) : (clearCount s).dbTime = s.dbTime := rfl
@[simp] theorem clearCount_btnPrev (s : State) : (clearCount s).btnPrev = s.btnPrev := rfl
@[simp] theorem clearCount_spPrevNum (s : State) : (clearCount s).spPrevNum = s.spPrevNum := rfl
@[simp] theorem clearCount_evtToggle (s : State) : (clearCount s).evtToggle = s.evtToggle := rfl
@[simp] theorem clearCount_evtDrift (s : State) : (clearCount s).evtDrift = s.evtDrift := rfl
@[simp] theorem clearCount_cur (s : State) : (clearCount s).cur = s.cur := rfl
@[simp] theorem clearCount_tgt (s : State) : (clearCount s).tgt = s.tgt := rfl
@[simp] theorem clearCount_inputs (s : State) : (clearCount s).inputs = s.inputs := rfl

/-! ### deliver -/

@[simp] theorem deliver_cfg (v : Nat) (s : State) : (deliver v s).cfg = s.cfg := rfl
@[simp] theorem deliver_count (v : Nat) (s : State) : (deliver v s).count = s.count := rfl
@[simp] theorem deliver_acc (v : Nat) (s : State) : (deliver v s).acc = sat s.cfg.cntW (s.acc + v) := rfl
@[simp] theorem deliver_ts (v : Nat) (s : State) : (deliver v s).ts = s.ts := rfl
@[simp] theorem deliver_spdNz (v : Nat) (s : State) : (deliver v s).spdNz = s.spdNz := rfl
@[simp] theorem deliver_spdPeriod (v : Nat) (s : State) : (deliver v s).spdPeriod = s.spdPeriod := rfl
@[simp] theorem deliver_rdVal (v : Nat) (s : State) : (deliver v s).rdVal = v := rfl
@[simp] theorem deliver_fresh (v : Nat) (s : State) : (deliver v s).fresh = s.fresh := rfl
@[simp] theorem deliver_degen (v : Nat) (s : State) : (deliver v s).degen = s.degen := rfl
@[simp] theorem deliver_spNum (v : Nat) (s : State) : (deliver v s).spNum = s.spNum := rfl
@[simp] theorem deliver_cruise (v : Nat) (s : State) : (deliver v s).cruise = s.cruise := rfl
@[simp] theorem deliver_dbValid (v : Nat) (s : State) : (deliver v s).dbValid = s.dbValid := rfl
@[simp] theorem deliver_dbTime (v : Nat) (s : State) : (deliver v s).dbTime = s.dbTime := rfl
@[simp] theorem deliver_btnPrev (v : Nat) (s : State) : (deliver v s).btnPrev = s.btnPrev := rfl
@[simp] theorem deliver_spPrevNum (v : Nat) (s : State) : (deliver v s).spPrevNum = s.spPrevNum := rfl
@[simp] theorem deliver_evtToggle (v : Nat) (s : State) : (deliver v s).evtToggle = s.evtToggle := rfl
@[simp] theorem deliver_evtDrift (v : Nat) (s : State) : (deliver v s).evtDrift = s.evtDrift := rfl
@[simp] theorem deliver_cur (v : Nat) (s : State) : (deliver v s).cur = s.cur := rfl
@[simp] theorem deliver_tgt (v : Nat) (s : State) : (deliver v s).tgt = s.tgt := rfl
@[simp] theorem deliver_inputs (v : Nat) (s : State) : (deliver v s).inputs = s.inputs := rfl

/-! ### writeSample -/

@[simp] theorem writeSample_cfg (now e : Nat) (s : State) : (writeSample now e s).cfg = s.cfg := rfl
@[simp] theorem writeSample_count (now e : Nat) (s : State) : (writeSample now e s).count = s.count := rfl
@[simp] theorem writeSample_acc (now e : Nat) (s : State) : (writeSample now e s).acc = 0 := rfl
@[simp] theorem writeSample_ts (now e : Nat) (s : State) : (writeSample now e s).ts = now := rfl
@[simp] theorem writeSample_spdNz (now e : Nat) (s : State) : (writeSample now e s).spdNz = true := rfl
@[simp] theorem writeSample_spdPeriod (now e : Nat) (s : State) : (writeSample now e s).spdPeriod = e := rfl
@[simp] theorem writeSample_rdVal (now e : Nat) (s : State) : (writeSample now e s).rdVal = s.rdVal := rfl
@[simp] theorem writeSample_fresh (now e : Nat) (s : State) : (writeSample now e s).fresh = s.fresh := rfl
@[simp] theorem writeSample_degen (now e : Nat) (s : State) : (writeSample now e s).degen = s.degen := rfl
@[simp] theorem writeSample_spNum (now e : Nat) (s : State) : (writeSample now e s).spNum = s.spNum := rfl
@[simp] theorem writeSample_cruise (now e : Nat) (s : State) : (writeSample now e s).cruise = s.cruise := rfl
@[simp] theorem writeSample_dbValid (now e : Nat) (s : State) : (writeSample now e s).dbValid = s.dbValid := rfl
@[simp] theorem writeSample_dbTime (now e : Nat) (s : State) : (writeSample now e s).dbTime = s.dbTime := rfl
@[simp] theorem writeSample_btnPrev (now e : Nat) (s : State) : (writeSample now e s).btnPrev = s.btnPrev := rfl
@[simp] theorem writeSample_spPrevNum (now e : Nat) (s : State) : (writeSample now e s).spPrevNum = s.spPrevNum := rfl
@[simp] theorem writeSample_evtToggle (now e : Nat) (s : State) : (writeSample now e s).evtToggle = s.evtToggle := rfl
@[simp] theorem writeSample_evtDrift (now e : Nat) (s : State) : (writeSample now e s).evtDrift = s.evtDrift := rfl
@[simp] theorem writeSample_cur (now e : Nat) (s : State) : (writeSample now e s).cur = s.cur := rfl
@[simp] theorem writeSample_tgt (now e : Nat) (s : State) : (writeSample now e s).tgt = s.tgt := rfl
@[simp] theorem writeSample_inputs (now e : Nat) (s : State) : (writeSample now e s).inputs = s.inputs := rfl

/-! ### writeSetpoint -/

@[simp] theorem writeSetpoint_cfg (n : Nat) (s : State) : (writeSetpoint n s).cfg = s.cfg := rfl
@[simp] theorem writeSetpoint_count (n : Nat) (s : State) : (writeSetpoint n s).count = s.count := rfl
@[simp] theorem writeSetpoint_acc (n : Nat) (s : State) : (writeSetpoint n s).acc = s.acc := rfl
@[simp] theorem writeSetpoint_ts (n : Nat) (s : State) : (writeSetpoint n s).ts = s.ts := rfl
@[simp] theorem writeSetpoint_spdNz (n : Nat) (s : State) : (writeSetpoint n s).spdNz = s.spdNz := rfl
@[simp] theorem writeSetpoint_spdPeriod (n : Nat) (s : State) : (writeSetpoint n s).spdPeriod = s.spdPeriod := rfl
@[simp] theorem writeSetpoint_rdVal (n : Nat) (s : State) : (writeSetpoint n s).rdVal = s.rdVal := rfl
@[simp] theorem writeSetpoint_fresh (n : Nat) (s : State) : (writeSetpoint n s).fresh = s.fresh := rfl
@[simp] theorem writeSetpoint_degen (n : Nat) (s : State) : (writeSetpoint n s).degen = s.degen := rfl
@[simp] theorem writeSetpoint_spNum (n : Nat) (s : State) : (writeSetpoint n s).spNum = n := rfl
@[simp] theorem writeSetpoint_cruise (n : Nat) (s : State) : (writeSetpoint n s).cruise = s.cruise := rfl
@[simp] theorem writeSetpoint_dbValid (n : Nat) (s : State) : (writeSetpoint n s).dbValid = s.dbValid := rfl
@[simp] theorem writeSetpoint_dbTime (n : Nat) (s : State) : (writeSetpoint n s).dbTime = s.dbTime := rfl
@[simp] theorem writeSetpoint_btnPrev (n : Nat) (s : State) : (writeSetpoint n s).btnPrev = s.btnPrev := rfl
@[simp] theorem writeSetpoint_spPrevNum (n : Nat) (s : State) : (writeSetpoint n s).spPrevNum = s.spPrevNum := rfl
@[simp] theorem writeSetpoint_evtToggle (n : Nat) (s : State) : (writeSetpoint n s).evtToggle = s.evtToggle := rfl
@[simp] theorem writeSetpoint_evtDrift (n : Nat) (s : State) : (writeSetpoint n s).evtDrift = s.evtDrift := rfl
@[simp] theorem writeSetpoint_cur (n : Nat) (s : State) : (writeSetpoint n s).cur = s.cur := rfl
@[simp] theorem writeSetpoint_tgt (n : Nat) (s : State) : (writeSetpoint n s).tgt = s.tgt := rfl
@[simp] theorem writeSetpoint_inputs (n : Nat) (s : State) : (writeSetpoint n s).inputs = s.inputs := rfl

/-! ### forgetQuiet -/

@[simp] theorem forgetQuiet_cfg (s : State) : (forgetQuiet s).cfg = s.cfg := rfl
@[simp] theorem forgetQuiet_count (s : State) : (forgetQuiet s).count = s.count := rfl
@[simp] theorem forgetQuiet_acc (s : State) : (forgetQuiet s).acc = s.acc := rfl
@[simp] theorem forgetQuiet_ts (s : State) : (forgetQuiet s).ts = s.ts := rfl
@[simp] theorem forgetQuiet_spdNz (s : State) : (forgetQuiet s).spdNz = s.spdNz := rfl
@[simp] theorem forgetQuiet_spdPeriod (s : State) : (forgetQuiet s).spdPeriod = s.spdPeriod := rfl
@[simp] theorem forgetQuiet_rdVal (s : State) : (forgetQuiet s).rdVal = s.rdVal := rfl
@[simp] theorem forgetQuiet_fresh (s : State) : (forgetQuiet s).fresh = s.fresh := rfl
@[simp] theorem forgetQuiet_degen (s : State) : (forgetQuiet s).degen = s.degen := rfl
@[simp] theorem forgetQuiet_spNum (s : State) : (forgetQuiet s).spNum = s.spNum := rfl
@[simp] theorem forgetQuiet_cruise (s : State) : (forgetQuiet s).cruise = s.cruise := rfl
@[simp] theorem forgetQuiet_dbValid (s : State) : (forgetQuiet s).dbValid = false := rfl
@[simp] theorem forgetQuiet_dbTime (s : State) : (forgetQuiet s).dbTime = s.dbTime := rfl
@[simp] theorem forgetQuiet_btnPrev (s : State) : (forgetQuiet s).btnPrev = s.btnPrev := rfl
@[simp] theorem forgetQuiet_spPrevNum (s : State) : (forgetQuiet s).spPrevNum = s.spPrevNum := rfl
@[simp] theorem forgetQuiet_evtToggle (s : State) : (forgetQuiet s).evtToggle = s.evtToggle := rfl
@[simp] theorem forgetQuiet_evtDrift (s : State) : (forgetQuiet s).evtDrift = s.evtDrift := rfl
@[simp] theorem forgetQuiet_cur (s : State) : (forgetQuiet s).cur = s.cur := rfl
@[simp] theorem forgetQuiet_tgt (s : State) : (forgetQuiet s).tgt = s.tgt := rfl
@[simp] theorem forgetQuiet_inputs (s : State) : (forgetQuiet s).inputs = s.inputs := rfl

/-! ### acceptEdge -/

@[simp] theorem acceptEdge_cfg (now : Nat) (s : State) : (acceptEdge now s).cfg = s.cfg := rfl
@[simp] theorem acceptEdge_count (now : Nat) (s : State) : (acceptEdge now s).count = s.count := rfl
@[simp] theorem acceptEdge_acc (now : Nat) (s : State) : (acceptEdge now s).acc = s.acc := rfl
@[simp] theorem acceptEdge_ts (now : Nat) (s : State) : (acceptEdge now s).ts = s.ts := rfl
@[simp] theorem acceptEdge_spdNz (now : Nat) (s : State) : (acceptEdge now s).spdNz = s.spdNz := rfl
@[simp] theorem acceptEdge_spdPeriod (now : Nat) (s : State) : (acceptEdge now s).spdPeriod = s.spdPeriod := rfl
@[simp] theorem acceptEdge_rdVal (now : Nat) (s : State) : (acceptEdge now s).rdVal = s.rdVal := rfl
@[simp] theorem acceptEdge_fresh (now : Nat) (s : State) : (acceptEdge now s).fresh = s.fresh := rfl
@[simp] theorem acceptEdge_degen (now : Nat) (s : State) : (acceptEdge now s).degen = s.degen := rfl
@[simp] theorem acceptEdge_spNum (now : Nat) (s : State) : (acceptEdge now s).spNum = s.spNum := rfl
@[simp] theorem acceptEdge_cruise (now : Nat) (s : State) : (acceptEdge now s).cruise = otherState s.cruise := rfl
@[simp] theorem acceptEdge_dbValid (now : Nat) (s : State) : (acceptEdge now s).dbValid = true := rfl
@[simp] theorem acceptEdge_dbTime (now : Nat) (s : State) : (acceptEdge now s).dbTime = now := rfl
@[simp] theorem acceptEdge_btnPrev (now : Nat) (s : State) : (acceptEdge now s).btnPrev = s.btnPrev := rfl
@[simp] theorem acceptEdge_spPrevNum (now : Nat) (s : State) : (acceptEdge now s).spPrevNum = s.spPrevNum := rfl
@[simp] theorem acceptEdge_evtToggle (now : Nat) (s : State) : (acceptEdge now s).evtToggle = s.evtToggle := rfl
@[simp] theorem acceptEdge_evtDrift (now : Nat) (s : State) : (acceptEdge now s).evtDrift = s.evtDrift := rfl
@[simp] theorem acceptEdge_cur (now : Nat) (s : State) : (acceptEdge now s).cur = s.cur := rfl
@[simp] theorem acceptEdge_tgt (now : Nat) (s : State) : (acceptEdge now s).tgt = s.tgt := rfl
@[simp] theorem acceptEdge_inputs (now : Nat) (s : State) : (acceptEdge now s).inputs = s.inputs := rfl

/-! ### writeButton -/

@[simp] theorem writeButton_cfg (pressed : Bool) (s : State) : (writeButton pressed s).cfg = s.cfg := rfl
@[simp] theorem writeButton_count (pressed : Bool) (s : State) : (writeButton pressed s).count = s.count := rfl
@[simp] theorem writeButton_acc (pressed : Bool) (s : State) : (writeButton pressed s).acc = s.acc := rfl
@[simp] theorem writeButton_ts (pressed : Bool) (s : State) : (writeButton pressed s).ts = s.ts := rfl
@[simp] theorem writeButton_spdNz (pressed : Bool) (s : State) : (writeButton pressed s).spdNz = s.spdNz := rfl
@[simp] theorem writeButton_spdPeriod (pressed : Bool) (s : State) : (writeButton pressed s).spdPeriod = s.spdPeriod := rfl
@[simp] theorem writeButton_rdVal (pressed : Bool) (s : State) : (writeButton pressed s).rdVal = s.rdVal := rfl
@[simp] theorem writeButton_fresh (pressed : Bool) (s : State) : (writeButton pressed s).fresh = s.fresh := rfl
@[simp] theorem writeButton_degen (pressed : Bool) (s : State) : (writeButton pressed s).degen = s.degen := rfl
@[simp] theorem writeButton_spNum (pressed : Bool) (s : State) : (writeButton pressed s).spNum = s.spNum := rfl
@[simp] theorem writeButton_cruise (pressed : Bool) (s : State) : (writeButton pressed s).cruise = s.cruise := rfl
@[simp] theorem writeButton_dbValid (pressed : Bool) (s : State) : (writeButton pressed s).dbValid = s.dbValid := rfl
@[simp] theorem writeButton_dbTime (pressed : Bool) (s : State) : (writeButton pressed s).dbTime = s.dbTime := rfl
@[simp] theorem writeButton_btnPrev (pressed : Bool) (s : State) : (writeButton pressed s).btnPrev = pressed := rfl
@[simp] theorem writeButton_spPrevNum (pressed : Bool) (s : State) : (writeButton pressed s).spPrevNum = s.spPrevNum := rfl
@[simp] theorem writeButton_evtToggle (pressed : Bool) (s : State) : (writeButton pressed s).evtToggle = s.evtToggle := rfl
@[simp] theorem writeButton_evtDrift (pressed : Bool) (s : State) : (writeButton pressed s).evtDrift = s.evtDrift := rfl
@[simp] theorem writeButton_cur (pressed : Bool) (s : State) : (writeButton pressed s).cur = s.cur := rfl
@[simp] theorem writeButton_tgt (pressed : Bool) (s : State) : (writeButton pressed s).tgt = s.tgt := rfl
@[simp] theorem writeButton_inputs (pressed : Bool) (s : State) : (writeButton pressed s).inputs = s.inputs := rfl

/-! ### disengage -/

@[simp] theorem disengage_cfg (s : State) : (disengage s).cfg = s.cfg := rfl
@[simp] theorem disengage_count (s : State) : (disengage s).count = s.count := rfl
@[simp] theorem disengage_acc (s : State) : (disengage s).acc = s.acc := rfl
@[simp] theorem disengage_ts (s : State) : (disengage s).ts = s.ts := rfl
@[simp] theorem disengage_spdNz (s : State) : (disengage s).spdNz = s.spdNz := rfl
@[simp] theorem disengage_spdPeriod (s : State) : (disengage s).spdPeriod = s.spdPeriod := rfl
@[simp] theorem disengage_rdVal (s : State) : (disengage s).rdVal = s.rdVal := rfl
@[simp] theorem disengage_fresh (s : State) : (disengage s).fresh = s.fresh := rfl
@[simp] theorem disengage_degen (s : State) : (disengage s).degen = s.degen := rfl
@[simp] theorem disengage_spNum (s : State) : (disengage s).spNum = s.spNum := rfl
@[simp] theorem disengage_cruise (s : State) : (disengage s).cruise = .disengaged := rfl
@[simp] theorem disengage_dbValid (s : State) : (disengage s).dbValid = s.dbValid := rfl
@[simp] theorem disengage_dbTime (s : State) : (disengage s).dbTime = s.dbTime := rfl
@[simp] theorem disengage_btnPrev (s : State) : (disengage s).btnPrev = s.btnPrev := rfl
@[simp] theorem disengage_spPrevNum (s : State) : (disengage s).spPrevNum = s.spPrevNum := rfl
@[simp] theorem disengage_evtToggle (s : State) : (disengage s).evtToggle = s.evtToggle := rfl
@[simp] theorem disengage_evtDrift (s : State) : (disengage s).evtDrift = s.evtDrift := rfl
@[simp] theorem disengage_cur (s : State) : (disengage s).cur = s.cur := rfl
@[simp] theorem disengage_tgt (s : State) : (disengage s).tgt = s.tgt := rfl
@[simp] theorem disengage_inputs (s : State) : (disengage s).inputs = s.inputs := rfl

/-! ### rememberSetpoint -/

@[simp] theorem rememberSetpoint_cfg (s : State) : (rememberSetpoint s).cfg = s.cfg := rfl
@[simp] theorem rememberSetpoint_count (s : State) : (rememberSetpoint s).count = s.count := rfl
@[simp] theorem rememberSetpoint_acc (s : State) : (rememberSetpoint s).acc = s.acc := rfl
@[simp] theorem rememberSetpoint_ts (s : State) : (rememberSetpoint s).ts = s.ts := rfl
@[simp] theorem rememberSetpoint_spdNz (s : State) : (rememberSetpoint s).spdNz = s.spdNz := rfl
@[simp] theorem rememberSetpoint_spdPeriod (s : State) : (rememberSetpoint s).spdPeriod = s.spdPeriod := rfl
@[simp] theorem rememberSetpoint_rdVal (s : State) : (rememberSetpoint s).rdVal = s.rdVal := rfl
@[simp] theorem rememberSetpoint_fresh (s : State) : (rememberSetpoint s).fresh = s.fresh := rfl
@[simp] theorem rememberSetpoint_degen (s : State) : (rememberSetpoint s).degen = s.degen := rfl
@[simp] theorem rememberSetpoint_spNum (s : State) : (rememberSetpoint s).spNum = s.spNum := rfl
@[simp] theorem rememberSetpoint_cruise (s : State) : (rememberSetpoint s).cruise = s.cruise := rfl
@[simp] theorem rememberSetpoint_dbValid (s : State) : (rememberSetpoint s).dbValid = s.dbValid := rfl
@[simp] theorem rememberSetpoint_dbTime (s : State) : (rememberSetpoint s).dbTime = s.dbTime := rfl
@[simp] theorem rememberSetpoint_btnPrev (s : State) : (rememberSetpoint s).btnPrev = s.btnPrev := rfl
@[simp] theorem rememberSetpoint_spPrevNum (s : State) : (rememberSetpoint s).spPrevNum = s.spNum := rfl
@[simp] theorem rememberSetpoint_evtToggle (s : State) : (rememberSetpoint s).evtToggle = s.evtToggle := rfl
@[simp] theorem rememberSetpoint_evtDrift (s : State) : (rememberSetpoint s).evtDrift = s.evtDrift := rfl
@[simp] theorem rememberSetpoint_cur (s : State) : (rememberSetpoint s).cur = s.cur := rfl
@[simp] theorem rememberSetpoint_tgt (s : State) : (rememberSetpoint s).tgt = s.tgt := rfl
@[simp] theorem rememberSetpoint_inputs (s : State) : (rememberSetpoint s).inputs = s.inputs := rfl

/-! ### writeDuty -/

@[simp] theorem writeDuty_cfg (t c : Nat) (s : State) : (writeDuty t c s).cfg = s.cfg := rfl
@[simp] theorem writeDuty_count (t c : Nat) (s : State) : (writeDuty t c s).count = s.count := rfl
@[simp] theorem writeDuty_acc (t c : Nat) (s : State) : (writeDuty t c s).acc = s.acc := rfl
@[simp] theorem writeDuty_ts (t c : Nat) (s : State) : (writeDuty t c s).ts = s.ts := rfl
@[simp] theorem writeDuty_spdNz (t c : Nat) (s : State) : (writeDuty t c s).spdNz = s.spdNz := rfl
@[simp] theorem writeDuty_spdPeriod (t c : Nat) (s : State) : (writeDuty t c s).spdPeriod = s.spdPeriod := rfl
@[simp] theorem writeDuty_rdVal (t c : Nat) (s : State) : (writeDuty t c s).rdVal = s.rdVal := rfl
@[simp] theorem writeDuty_fresh (t c : Nat) (s : State) : (writeDuty t c s).fresh = s.fresh := rfl
@[simp] theorem writeDuty_degen (t c : Nat) (s : State) : (writeDuty t c s).degen = s.degen := rfl
@[simp] theorem writeDuty_spNum (t c : Nat) (s : State) : (writeDuty t c s).spNum = s.spNum := rfl
@[simp] theorem writeDuty_cruise (t c : Nat) (s : State) : (writeDuty t c s).cruise = s.cruise := rfl
@[simp] theorem writeDuty_dbValid (t c : Nat) (s : State) : (writeDuty t c s).dbValid = s.dbValid := rfl
@[simp] theorem writeDuty_dbTime (t c : Nat) (s : State) : (writeDuty t c s).dbTime = s.dbTime := rfl
@[simp] theorem writeDuty_btnPrev (t c : Nat) (s : State) : (writeDuty t c s).btnPrev = s.btnPrev := rfl
@[simp] theorem writeDuty_spPrevNum (t c : Nat) (s : State) : (writeDuty t c s).spPrevNum = s.spPrevNum := rfl
@[simp] theorem writeDuty_evtToggle (t c : Nat) (s : State) : (writeDuty t c s).evtToggle = s.evtToggle := rfl
@[simp] theorem writeDuty_evtDrift (t c : Nat) (s : State) : (writeDuty t c s).evtDrift = s.evtDrift := rfl
@[simp] theorem writeDuty_cur (t c : Nat) (s : State) : (writeDuty t c s).cur = c := rfl
@[simp] theorem writeDuty_tgt (t c : Nat) (s : State) : (writeDuty t c s).tgt = t := rfl
@[simp] theorem writeDuty_inputs (t c : Nat) (s : State) : (writeDuty t c s).inputs = s.inputs := rfl

/-! ### setInputs -/

@[simp] theorem setInputs_cfg (rest : List InputSample) (s : State) : (setInputs rest s).cfg = s.cfg := rfl
@[simp] theorem setInputs_count (rest : List InputSample) (s : State) : (setInputs rest s).count = s.count := rfl
@[simp] theorem setInputs_acc (rest : List InputSample) (s : State) : (setInputs rest s).acc = s.acc := rfl
@[simp] theorem setInputs_ts (rest : List InputSample) (s : State) : (setInputs rest s).ts = s.ts := rfl
@[simp] theorem setInputs_spdNz (rest : List InputSample) (s : State) : (setInputs rest s).spdNz = s.spdNz := rfl
@[simp] theorem setInputs_spdPeriod (rest : List InputSample) (s : State) : (setInputs rest s).spdPeriod = s.spdPeriod := rfl
@[simp] theorem setInputs_rdVal (rest : List InputSample) (s : State) : (setInputs rest s).rdVal = s.rdVal := rfl
@[simp] theorem setInputs_fresh (rest : List InputSample) (s : State) : (setInputs rest s).fresh = s.fresh := rfl
@[simp] theorem setInputs_degen (rest : List InputSample) (s : State) : (setInputs rest s).degen = s.degen := rfl
@[simp] theorem setInputs_spNum (rest : List InputSample) (s : State) : (setInputs rest s).spNum = s.spNum := rfl
@[simp] theorem setInputs_cruise (rest : List InputSample) (s : State) : (setInputs rest s).cruise = s.cruise := rfl
@[simp] theorem setInputs_dbValid (rest : List InputSample) (s : State) : (setInputs rest s).dbValid = s.dbValid := rfl
@[simp] theorem setInputs_dbTime (rest : List InputSample) (s : State) : (setInputs rest s).dbTime = s.dbTime := rfl
@[simp] theorem setInputs_btnPrev (rest : List InputSample) (s : State) : (setInputs rest s).btnPrev = s.btnPrev := rfl
@[simp] theorem setInputs_spPrevNum (rest : List InputSample) (s : State) : (setInputs rest s).spPrevNum = s.spPrevNum := rfl
@[simp] theorem setInputs_evtToggle (rest : List InputSample) (s : State) : (setInputs rest s).evtToggle = s.evtToggle := rfl
@[simp] theorem setInputs_evtDrift (rest : List InputSample) (s : State) : (setInputs rest s).evtDrift = s.evtDrift := rfl
@[simp] theorem setInputs_cur (rest : List InputSample) (s : State) : (setInputs rest s).cur = s.cur := rfl
@[simp] theorem setInputs_tgt (rest : List InputSample) (s : State) : (setInputs rest s).tgt = s.tgt := rfl
@[simp] theorem setInputs_inputs (rest : List InputSample) (s : State) : (setInputs rest s).inputs = rest := rfl

/-! ### writeObserveFlags -/

@[simp] theorem writeObserveFlags_cfg (f d : Bool) (s : State) : (writeObserveFlags f d s).cfg = s.cfg := rfl
@[simp] theorem writeObserveFlags_count (f d : Bool) (s : State) : (writeObserveFlags f d s).count = s.count := rfl
@[simp] theorem writeObserveFlags_acc (f d : Bool) (s : State) : (writeObserveFlags f d s).acc = s.acc := rfl
@[simp] theorem writeObserveFlags_ts (f d : Bool) (s : State) : (writeObserveFlags f d s).ts = s.ts := rfl
@[simp] theorem writeObserveFlags_spdNz (f d : Bool) (s : State) : (writeObserveFlags f d s).spdNz = s.spdNz := rfl
@[simp] theorem writeObserveFlags_spdPeriod (f d : Bool) (s : State) : (writeObserveFlags f d s).spdPeriod = s.spdPeriod := rfl
@[simp] theorem writeObserveFlags_rdVal (f d : Bool) (s : State) : (writeObserveFlags f d s).rdVal = s.rdVal := rfl
@[simp] theorem writeObserveFlags_fresh (f d : Bool) (s : State) : (writeObserveFlags f d s).fresh = f := rfl
@[simp] theorem writeObserveFlags_degen (f d : Bool) (s : State) : (writeObserveFlags f d s).degen = d := rfl
@[simp] theorem writeObserveFlags_spNum (f d : Bool) (s : State) : (writeObserveFlags f d s).spNum = s.spNum := rfl
@[simp] theorem writeObserveFlags_cruise (f d : Bool) (s : State) : (writeObserveFlags f d s).cruise = s.cruise := rfl
@[simp] theorem writeObserveFlags_dbValid (f d : Bool) (s : State) : (writeObserveFlags f d s).dbValid = s.dbValid := rfl
@[simp] theorem writeObserveFlags_dbTime (f d : Bool) (s : State) : (writeObserveFlags f d s).dbTime = s.dbTime := rfl
@[simp] theorem writeObserveFlags_btnPrev (f d : Bool) (s : State) : (writeObserveFlags f d s).btnPrev = s.btnPrev := rfl
@[simp] theorem writeObserveFlags_spPrevNum (f d : Bool) (s : State) : (writeObserveFlags f d s).spPrevNum = s.spPrevNum := rfl
@[simp] theorem writeObserveFlags_evtToggle (f d : Bool) (s : State) : (writeObserveFlags f d s).evtToggle = s.evtToggle := rfl
@[simp] theorem writeObserveFlags_evtDrift (f d : Bool) (s : State) : (writeObserveFlags f d s).evtDrift = s.evtDrift := rfl
@[simp] theorem writeObserveFlags_cur (f d : Bool) (s : State) : (writeObserveFlags f d s).cur = s.cur := rfl
@[simp] theorem writeObserveFlags_tgt (f d : Bool) (s : State) : (writeObserveFlags f d s).tgt = s.tgt := rfl
@[simp] theorem writeObserveFlags_inputs (f d : Bool) (s : State) : (writeObserveFlags f d s).inputs = s.inputs := rfl

/-! ### writeToggleFlag -/

@[simp] theorem writeToggleFlag_cfg (b : Bool) (s : State) : (writeToggleFlag b s).cfg = s.cfg := rfl
@[simp] theorem writeToggleFlag_count (b : Bool) (s : State) : (writeToggleFlag b s).count = s.count := rfl
@[simp] theorem writeToggleFlag_acc (b : Bool) (s : State) : (writeToggleFlag b s).acc = s.acc := rfl
@[simp] theorem writeToggleFlag_ts (b : Bool) (s : State) : (writeToggleFlag b s).ts = s.ts := rfl
@[simp] theorem writeToggleFlag_spdNz (b : Bool) (s : State) : (writeToggleFlag b s).spdNz = s.spdNz := rfl
@[simp] theorem writeToggleFlag_spdPeriod (b : Bool) (s : State) : (writeToggleFlag b s).spdPeriod = s.spdPeriod := rfl
@[simp] theorem writeToggleFlag_rdVal (b : Bool) (s : State) : (writeToggleFlag b s).rdVal = s.rdVal := rfl
@[simp] theorem writeToggleFlag_fresh (b : Bool) (s : State) : (writeToggleFlag b s).fresh = s.fresh := rfl
@[simp] theorem writeToggleFlag_degen (b : Bool) (s : State) : (writeToggleFlag b s).degen = s.degen := rfl
@[simp] theorem writeToggleFlag_spNum (b : Bool) (s : State) : (writeToggleFlag b s).spNum = s.spNum := rfl
@[simp] theorem writeToggleFlag_cruise (b : Bool) (s : State) : (writeToggleFlag b s).cruise = s.cruise := rfl
@[simp] theorem writeToggleFlag_dbValid (b : Bool) (s : State) : (writeToggleFlag b s).dbValid = s.dbValid := rfl
@[simp] theorem writeToggleFlag_dbTime (b : Bool) (s : State) : (writeToggleFlag b s).dbTime = s.dbTime := rfl
@[simp] theorem writeToggleFlag_btnPrev (b : Bool) (s : State) : (writeToggleFlag b s).btnPrev = s.btnPrev := rfl
@[simp] theorem writeToggleFlag_spPrevNum (b : Bool) (s : State) : (writeToggleFlag b s).spPrevNum = s.spPrevNum := rfl
@[simp] theorem writeToggleFlag_evtToggle (b : Bool) (s : State) : (writeToggleFlag b s).evtToggle = b := rfl
@[simp] theorem writeToggleFlag_evtDrift (b : Bool) (s : State) : (writeToggleFlag b s).evtDrift = s.evtDrift := rfl
@[simp] theorem writeToggleFlag_cur (b : Bool) (s : State) : (writeToggleFlag b s).cur = s.cur := rfl
@[simp] theorem writeToggleFlag_tgt (b : Bool) (s : State) : (writeToggleFlag b s).tgt = s.tgt := rfl
@[simp] theorem writeToggleFlag_inputs (b : Bool) (s : State) : (writeToggleFlag b s).inputs = s.inputs := rfl

/-! ### writeDriftFlag -/

@[simp] theorem writeDriftFlag_cfg (b : Bool) (s : State) : (writeDriftFlag b s).cfg = s.cfg := rfl
@[simp] theorem writeDriftFlag_count (b : Bool) (s : State) : (writeDriftFlag b s).count = s.count := rfl
@[simp] theorem writeDriftFlag_acc (b : Bool) (s : State) : (writeDriftFlag b s).acc = s.acc := rfl
@[simp] theorem writeDriftFlag_ts (b : Bool) (s : State) : (writeDriftFlag b s).ts = s.ts := rfl
@[simp] theorem writeDriftFlag_spdNz (b : Bool) (s : State) : (writeDriftFlag b s).spdNz = s.spdNz := rfl
@[simp] theorem writeDriftFlag_spdPeriod (b : Bool) (s : State) : (writeDriftFlag b s).spdPeriod = s.spdPeriod := rfl
@[simp] theorem writeDriftFlag_rdVal (b : Bool) (s : State) : (writeDriftFlag b s).rdVal = s.rdVal := rfl
@[simp] theorem writeDriftFlag_fresh (b : Bool) (s : State) : (writeDriftFlag b s).fresh = s.fresh := rfl
@[simp] theorem writeDriftFlag_degen (b : Bool) (s : State) : (writeDriftFlag b s).degen = s.degen := rfl
@[simp] theorem writeDriftFlag_spNum (b : Bool) (s : State) : (writeDriftFlag b s).spNum = s.spNum := rfl
@[simp] theorem writeDriftFlag_cruise (b : Bool) (s : State) : (writeDriftFlag b s).cruise = s.cruise := rfl
@[simp] theorem writeDriftFlag_dbValid (b : Bool) (s : State) : (writeDriftFlag b s).dbValid = s.dbValid := rfl
@[simp] theorem writeDriftFlag_dbTime (b : Bool) (s : State) : (writeDriftFlag b s).dbTime = s.dbTime := rfl
@[simp] theorem writeDriftFlag_btnPrev (b : Bool) (s : State) : (writeDriftFlag b s).btnPrev = s.btnPrev := rfl
@[simp] theorem writeDriftFlag_spPrevNum (b : Bool) (s : State) : (writeDriftFlag b s).spPrevNum = s.spPrevNum := rfl
@[simp] theorem writeDriftFlag_evtToggle (b : Bool) (s : State) : (writeDriftFlag b s).evtToggle = s.evtToggle := rfl
@[simp] theorem writeDriftFlag_evtDrift (b : Bool) (s : State) : (writeDriftFlag b s).evtDrift = b := rfl
@[simp] theorem writeDriftFlag_cur (b : Bool) (s : State) : (writeDriftFlag b s).cur = s.cur := rfl
@[simp] theorem writeDriftFlag_tgt (b : Bool) (s : State) : (writeDriftFlag b s).tgt = s.tgt := rfl
@[simp] theorem writeDriftFlag_inputs (b : Bool) (s : State) : (writeDriftFlag b s).inputs = s.inputs := rfl

/-! ### resetRegisters -/

@[simp] theorem resetRegisters_cfg (s : State) : (resetRegisters s).cfg = s.cfg := rfl
@[simp] theorem resetRegisters_count (s : State) : (resetRegisters s).count = 0 := rfl
@[simp] theorem resetRegisters_acc (s : State) : (resetRegisters s).acc = 0 := rfl
@[simp] theorem resetRegisters_ts (s : State) : (resetRegisters s).ts = 0 := rfl
@[simp] theorem resetRegisters_spdNz (s : State) : (resetRegisters s).spdNz = false := rfl
@[simp] theorem resetRegisters_spdPeriod (s : State) : (resetRegisters s).spdPeriod = 0 := rfl
@[simp] theorem resetRegisters_rdVal (s : State) : (resetRegisters s).rdVal = 0 := rfl
@[simp] theorem resetRegisters_fresh (s : State) : (resetRegisters s).fresh = false := rfl
@[simp] theorem resetRegisters_degen (s : State) : (resetRegisters s).degen = false := rfl
@[simp] theorem resetRegisters_spNum (s : State) : (resetRegisters s).spNum = 0 := rfl
@[simp] theorem resetRegisters_cruise (s : State) : (resetRegisters s).cruise = .disengaged := rfl
@[simp] theorem resetRegisters_dbValid (s : State) : (resetRegisters s).dbValid = false := rfl
@[simp] theorem resetRegisters_dbTime (s : State) : (resetRegisters s).dbTime = 0 := rfl
@[simp] theorem resetRegisters_btnPrev (s : State) : (resetRegisters s).btnPrev = false := rfl
@[simp] theorem resetRegisters_spPrevNum (s : State) : (resetRegisters s).spPrevNum = 0 := rfl
@[simp] theorem resetRegisters_evtToggle (s : State) : (resetRegisters s).evtToggle = false := rfl
@[simp] theorem resetRegisters_evtDrift (s : State) : (resetRegisters s).evtDrift = false := rfl
@[simp] theorem resetRegisters_cur (s : State) : (resetRegisters s).cur = 0 := rfl
@[simp] theorem resetRegisters_tgt (s : State) : (resetRegisters s).tgt = 0 := rfl
@[simp] theorem resetRegisters_inputs (s : State) : (resetRegisters s).inputs = s.inputs := rfl

end Sys2Proof.Machine
end

