-- ==== Sys2Proof/Laws/Ops.lean ====
section
/-! SUPPORT. One specification lemma for each shared operation and phase: everything it can do to the state, so that later proofs
cite it and do not unfold the operation. -/

namespace Sys2Proof.Machine

/-! ### Arithmetic helpers -/

theorem sat_le (n v : Nat) : sat n v ≤ 2 ^ n - 1 := Nat.min_le_right _ _

theorem sat_lt (n v : Nat) : sat n v < 2 ^ n := by
  have h := sat_le n v
  have h2 : 0 < 2 ^ n := Nat.two_pow_pos n
  omega

theorem sat_eq_self {n v : Nat} (h : v ≤ 2 ^ n - 1) : sat n v = v := Nat.min_eq_left h

/-- A saturated sum is below a bound that the width can hold exactly when the sum is (R73). -/
theorem sat_lt_iff {n v k : Nat} (h : k ≤ 2 ^ n - 1) : sat n v < k ↔ v < k := by
  unfold sat
  omega

theorem elapsed_lt (c : Config) (a b : Nat) : elapsed c a b < 2 ^ c.timeW := by
  unfold elapsed
  have h : (0 : Int) < ((2 ^ c.timeW : Nat) : Int) := by exact_mod_cast Nat.two_pow_pos _
  have h1 := Int.emod_nonneg ((a : Int) - (b : Int)) (ne_of_gt h)
  have h2 := Int.emod_lt_of_pos ((a : Int) - (b : Int)) h
  omega

/-- Without a wrap, elapsed time is the plain difference (00_scope.md section 5.4). -/
theorem elapsed_of_le {c : Config} {a b : Nat} (hb : b ≤ a) (ha : a < 2 ^ c.timeW) : elapsed c a b = a - b := by
  have h : (((a : Int) - (b : Int)) % ((2 ^ c.timeW : Nat) : Int)) = (a : Int) - b :=
    Int.emod_eq_of_lt (by omega) (by omega)
  unfold elapsed
  omega

theorem absDiff_comm (a b : Nat) : absDiff a b = absDiff b a := by
  unfold absDiff
  split <;> split <;> omega

@[simp] theorem otherState_otherState (x : CruiseState) : otherState (otherState x) = x := by cases x <;> rfl

/-! ### Pulse counter and estimator -/

@[simp] theorem atomicReadReset_fst (s : State) : (atomicReadReset s).1 = s.count := rfl

@[simp] theorem atomicReadReset_snd (s : State) : (atomicReadReset s).2 = clearCount s := rfl

theorem readAndDeliver_eq (s : State) :
    readAndDeliver s = { s with count := 0, rdVal := s.count, acc := sat s.cfg.cntW (s.acc + s.count) } := rfl

/-- An estimate is one of three: below the threshold (R82), degenerate (R85), a sample (R84). -/
theorem estimate_cases (now : Nat) (s : State) :
    (s.acc < s.cfg.ppr ∧ estimate now s = { s with fresh := false, degen := false }) ∨
    (s.cfg.ppr ≤ s.acc ∧ elapsed s.cfg now s.ts < s.cfg.minElapsed ∧
      estimate now s = { s with fresh := false, degen := true }) ∨
    (s.cfg.ppr ≤ s.acc ∧ s.cfg.minElapsed ≤ elapsed s.cfg now s.ts ∧
      estimate now s = { s with spdNz := true, spdPeriod := elapsed s.cfg now s.ts, ts := now, acc := 0,
                                fresh := true, degen := false }) := by
  by_cases h1 : s.acc < s.cfg.ppr
  · exact .inl ⟨h1, by simp only [estimate, if_pos h1]; rfl⟩
  · by_cases h2 : elapsed s.cfg now s.ts < s.cfg.minElapsed
    · exact .inr (.inl ⟨by omega, h2, by simp only [estimate, if_neg h1, if_pos h2]; rfl⟩)
    · exact .inr (.inr ⟨by omega, by omega, by simp only [estimate, if_neg h1, if_neg h2]; rfl⟩)

/-- An observation is an estimate of the state in which the count has been read, reset and accumulated (R81, R87). -/
theorem observation_cases (now : Nat) (s : State) :
    (sat s.cfg.cntW (s.acc + s.count) < s.cfg.ppr ∧
      observation now s = { s with count := 0, rdVal := s.count, acc := sat s.cfg.cntW (s.acc + s.count),
                                   fresh := false, degen := false }) ∨
    (s.cfg.ppr ≤ sat s.cfg.cntW (s.acc + s.count) ∧ elapsed s.cfg now s.ts < s.cfg.minElapsed ∧
      observation now s = { s with count := 0, rdVal := s.count, acc := sat s.cfg.cntW (s.acc + s.count),
                                   fresh := false, degen := true }) ∨
    (s.cfg.ppr ≤ sat s.cfg.cntW (s.acc + s.count) ∧ s.cfg.minElapsed ≤ elapsed s.cfg now s.ts ∧
      observation now s = { s with count := 0, rdVal := s.count, acc := 0, spdNz := true,
                                   spdPeriod := elapsed s.cfg now s.ts, ts := now, fresh := true, degen := false }) := by
  simpa [observation, readAndDeliver_eq] using estimate_cases now (readAndDeliver s)

/-- The registers an observation writes, each by its own condition (R82 to R85). -/
theorem observation_eq (now : Nat) (s : State) :
    observation now s =
      { s with
        count := 0
        rdVal := s.count
        acc := if s.cfg.ppr ≤ sat s.cfg.cntW (s.acc + s.count) ∧ s.cfg.minElapsed ≤ elapsed s.cfg now s.ts then 0
          else sat s.cfg.cntW (s.acc + s.count)
        ts := if s.cfg.ppr ≤ sat s.cfg.cntW (s.acc + s.count) ∧ s.cfg.minElapsed ≤ elapsed s.cfg now s.ts then now else s.ts
        spdNz := decide (s.cfg.ppr ≤ sat s.cfg.cntW (s.acc + s.count) ∧ s.cfg.minElapsed ≤ elapsed s.cfg now s.ts) || s.spdNz
        spdPeriod := if s.cfg.ppr ≤ sat s.cfg.cntW (s.acc + s.count) ∧ s.cfg.minElapsed ≤ elapsed s.cfg now s.ts
          then elapsed s.cfg now s.ts else s.spdPeriod
        fresh := decide (s.cfg.ppr ≤ sat s.cfg.cntW (s.acc + s.count) ∧ s.cfg.minElapsed ≤ elapsed s.cfg now s.ts)
        degen := decide (s.cfg.ppr ≤ sat s.cfg.cntW (s.acc + s.count) ∧ elapsed s.cfg now s.ts < s.cfg.minElapsed) } := by
  rcases observation_cases now s with ⟨h1, h⟩ | ⟨h1, h2, h⟩ | ⟨h1, h2, h⟩
  · simp [h, Nat.not_le.mpr h1]
  · simp [h, h1, h2, Nat.not_le.mpr h2]
  · simp [h, h1, h2, Nat.not_lt.mpr h2]

/-! ### Dead zone -/

theorem condition_eq (raw : Nat) (s : State) : condition raw s = { s with spNum := deadZoneNum s.cfg raw } := rfl

theorem deadZoneNum_cases (c : Config) (raw : Nat) :
    deadZoneNum c raw = 0 ∨
      (c.dzNum * c.rawMax ≤ deadZoneNum c raw * c.dzDen ∧
        deadZoneNum c raw = min (raw * c.tsm) (c.rawMax * c.tsm)) := by
  unfold deadZoneNum
  by_cases h : min (raw * c.tsm) (c.rawMax * c.tsm) * c.dzDen < c.dzNum * c.rawMax
  · exact .inl (if_pos h)
  · rw [if_neg h]
    exact .inr ⟨Nat.le_of_not_lt h, rfl⟩

theorem deadZoneNum_le (c : Config) (raw : Nat) : deadZoneNum c raw ≤ c.rawMax * c.tsm := by
  rcases deadZoneNum_cases c raw with h | ⟨-, h⟩
  · omega
  · exact h ▸ Nat.min_le_right _ _

/-! ### Cruise FSM -/

/-- What the button phase writes (R101 to R104, R106, R111): a running quiet period stays, an accepted edge opens one, and anything
else leaves none. -/
theorem buttonPhase_eq (pressed : Bool) (now : Nat) (s : State) :
    buttonPhase pressed now s =
      { s with cruise := if toggles pressed now s then otherState s.cruise else s.cruise,
               dbValid := toggles pressed now s || quiet now s,
               dbTime := if toggles pressed now s then now else s.dbTime,
               evtToggle := toggles pressed now s,
               btnPrev := pressed } := by
  have hq : quiet now s = true → s.dbValid = true := fun h => (Bool.and_eq_true_iff.mp h).1
  unfold buttonPhase
  cases ht : toggles pressed now s <;> cases h : quiet now s <;>
    simp [writeButton, writeToggleFlag, acceptEdge, forgetQuiet]
  · simpa using (hq h).symm ▸ rfl

/-- What the drift phase writes (R105, R107 to R109, R111). -/
theorem driftPhase_eq (s : State) :
    driftPhase s =
      { s with cruise := if driftDisengages s then .disengaged else s.cruise,
               evtDrift := driftDisengages s,
               spPrevNum := s.spNum } := by
  unfold driftPhase
  cases h : driftDisengages s <;> simp [rememberSetpoint, writeDriftFlag, disengage]

/-- After a drift phase in which drift held, `cruise` is Disengaged (R107, R108). -/
theorem driftPhase_disengaged {s : State} (h : driftHolds s = true) : (driftPhase s).cruise = .disengaged := by
  rw [driftPhase_eq]
  cases hc : s.cruise <;> simp [driftDisengages, h, hc]

/-! ### Slew limiter -/

theorem motorCommand_eq (s : State) :
    motorCommand s = { s with tgt := dutyTarget s.cfg (sourceSelect s),
                              cur := slewStep s.cfg s.cur (dutyTarget s.cfg (sourceSelect s)) } := rfl

theorem dutyTarget_le (c : Config) (v : Frac) : dutyTarget c v ≤ c.maxDuty := by
  unfold dutyTarget
  split
  · exact Nat.zero_le _
  · exact Nat.min_le_right _ _

/-- The snap of R119 changes no result of the floor of R118. -/
theorem dutyTarget_eq_min (c : Config) (v : Frac) :
    dutyTarget c v = min (v.num * c.maxDuty / (v.den * c.tsr)) c.maxDuty := by
  unfold dutyTarget
  split
  · rename_i h
    rw [Nat.div_eq_of_lt h, Nat.zero_min]
  · rfl

/-- A slew step moves by at most `DUTY_STEP` and stays between the two values it moves between (R120). -/
theorem slewStep_spec (c : Config) (cur t : Nat) :
    (cur ≤ t → cur ≤ slewStep c cur t ∧ slewStep c cur t ≤ t ∧ slewStep c cur t ≤ cur + c.dutyStep) ∧
    (t ≤ cur → t ≤ slewStep c cur t ∧ slewStep c cur t ≤ cur ∧ cur ≤ slewStep c cur t + c.dutyStep) := by
  unfold slewStep
  constructor <;> intro h <;> split <;> (try split) <;> omega

/-- A target within one step is reached (R120). -/
theorem slewStep_lands {c : Config} {cur t : Nat} (h1 : t ≤ cur + c.dutyStep) (h2 : cur ≤ t + c.dutyStep) :
    slewStep c cur t = t := by
  unfold slewStep
  split
  · omega
  · split <;> omega

theorem slewStep_le {c : Config} {cur t m : Nat} (h1 : cur ≤ m) (h2 : t ≤ m) : slewStep c cur t ≤ m := by
  have h := slewStep_spec c cur t
  rcases Nat.le_total cur t with hc | hc
  · exact le_trans (h.1 hc).2.1 h2
  · exact le_trans (h.2 hc).2.1 h1

/-! ### Each arm of exec -/

@[simp] theorem exec_pulse (s : State) : exec .pulse s = .next (bumpCount s) := rfl

@[simp] theorem exec_nop (s : State) : exec .nop s = .next s := rfl

@[simp] theorem exec_rdrst (s : State) : exec .rdrst s = .next (readAndDeliver s) := rfl

@[simp] theorem exec_observe (now : Nat) (s : State) : exec (.observe now) s = .next (observation now s) := rfl

@[simp] theorem exec_potcond (raw : Nat) (s : State) : exec (.potcond raw) s = .next (condition raw s) := rfl

@[simp] theorem exec_cruise (pressed : Bool) (now : Nat) (s : State) :
    exec (.cruise pressed now) s = .next (driftPhase (buttonPhase pressed now s)) := rfl

@[simp] theorem exec_slew (s : State) : exec .slew s = .next (motorCommand s) := rfl

@[simp] theorem exec_cycle (pressed : Bool) (raw now : Nat) (s : State) :
    exec (.cycle pressed raw now) s =
      .next (motorCommand (driftPhase (condition raw (buttonPhase pressed now (observation now s))))) := rfl

@[simp] theorem exec_reserved111 (s : State) : exec .reserved111 s = .next s := rfl

end Sys2Proof.Machine
end

