-- ==== Sys2Proof/Laws/Clock.lean ====
section
/-! SUPPORT. What one sample of the input ports can do, what a step can do, and how runs split. -/

namespace Sys2Proof.Machine

@[simp] theorem andThen_next (s : State) (k : State → Out) : andThen (.next s) k = k s := rfl

@[simp] theorem andThen_fault (r : Fault) (k : State → Out) : andThen (.fault r) k = .fault r := rfl

@[simp] theorem andThen_refused (r : Refusal) (k : State → Out) : andThen (.refused r) k = .refused r := rfl

/-- A sequence answers a next state exactly through an intermediate one. -/
theorem andThen_eq_next {o : Out} {k : State → Out} {t : State} :
    andThen o k = .next t ↔ ∃ u, o = .next u ∧ k u = .next t := by
  cases o with
  | next u => exact ⟨fun h => ⟨u, rfl, h⟩, fun ⟨_, h1, h2⟩ => by cases h1; exact h2⟩
  | fault r => exact ⟨fun h => by simp at h, fun ⟨_, h1, _⟩ => by cases h1⟩
  | refused r => exact ⟨fun h => by simp at h, fun ⟨_, h1, _⟩ => by cases h1⟩

theorem andThen_assoc (o : Out) (k l : State → Out) : andThen (andThen o k) l = andThen o fun s => andThen (k s) l := by
  cases o <;> rfl

/-- A sample answers a next state in one of two ways: a reset, or its command part and then its pulse part (R74, R156). -/
theorem clockWith_cases {run : Instr → State → Out} {p : InputSample} {s t : State} (h : clockWith run p s = .next t) :
    (p.rst = true ∧ t = resetRegisters s) ∨
    (p.rst = false ∧ ∃ u, commandPart run p s = .next u ∧ pulsePart run p u = .next t) := by
  unfold clockWith at h
  cases hr : p.rst with
  | true =>
    rw [if_pos hr] at h
    cases h
    exact .inl ⟨rfl, rfl⟩
  | false =>
    rw [if_neg (by simp [hr])] at h
    exact .inr ⟨rfl, andThen_eq_next.mp h⟩

/-- The command part answers a next state in one of two ways: no command, or a decoded one that was run (R50, R51). -/
theorem commandPart_cases {run : Instr → State → Out} {p : InputSample} {s u : State}
    (h : commandPart run p s = .next u) :
    (p.cmdValid = false ∧ u = s) ∨
    (p.cmdValid = true ∧ ∃ i, decode s.cfg (.command p.cmd) = .ok i ∧ run i s = .next u) := by
  unfold commandPart issue at h
  cases hv : p.cmdValid with
  | false =>
    rw [if_neg (by simp [hv])] at h
    cases h
    exact .inl ⟨rfl, rfl⟩
  | true =>
    rw [if_pos hv] at h
    split at h
    · rename_i i hd
      exact .inr ⟨rfl, i, hd, h⟩
    · cases h

/-- The pulse part answers a next state in one of two ways (R59). -/
theorem pulsePart_cases {run : Instr → State → Out} {p : InputSample} {u t : State}
    (h : pulsePart run p u = .next t) :
    (p.pulse = false ∧ t = u) ∨ (p.pulse = true ∧ run .pulse u = .next t) := by
  unfold pulsePart at h
  cases hp : p.pulse with
  | false =>
    rw [if_neg (by simp [hp])] at h
    cases h
    exact .inl ⟨rfl, rfl⟩
  | true =>
    rw [if_pos hp] at h
    exact .inr ⟨rfl, h⟩

/-- A step answers a next state in one of two ways: nothing pending, or one sample taken. -/
theorem stepWith_cases {run : Instr → State → Out} {s t : State} (h : stepWith run s = .next t) :
    s.cfg.Valid ∧ ((s.inputs = [] ∧ t = s) ∨
      ∃ p ps, s.inputs = p :: ps ∧ clockWith run p (setInputs ps s) = .next t) := by
  unfold stepWith at h
  by_cases hv : s.cfg.Valid
  · rw [if_pos hv] at h
    refine ⟨hv, ?_⟩
    cases hi : s.inputs with
    | nil =>
      rw [hi] at h
      cases h
      exact .inl ⟨rfl, rfl⟩
    | cons p ps =>
      rw [hi] at h
      exact .inr ⟨p, ps, rfl, h⟩
  · rw [if_neg hv] at h
    cases h

/-- A run over two lists is the run over the first and then the run over the second (R42). -/
theorem runWith_append (run : Instr → State → Out) (ps qs : List InputSample) (s : State) :
    runWith run (ps ++ qs) s = andThen (runWith run ps s) (runWith run qs) := by
  induction ps generalizing s with
  | nil => rfl
  | cons p ps ih =>
    show andThen (clockWith run p s) (runWith run (ps ++ qs)) = andThen (andThen (clockWith run p s) (runWith run ps)) (runWith run qs)
    rw [andThen_assoc]
    congr 1
    funext u
    exact ih u

/-- The operations of two lists in a row (R42). -/
theorem execSeq_append (is js : List Instr) (s : State) :
    execSeq (is ++ js) s = andThen (execSeq is s) (execSeq js) := by
  induction is generalizing s with
  | nil => rfl
  | cons i is ih =>
    show andThen (exec i s) (execSeq (is ++ js)) = andThen (andThen (exec i s) (execSeq is)) (execSeq js)
    rw [andThen_assoc]
    congr 1
    funext u
    exact ih u

@[simp] theorem execSeq_nil (s : State) : execSeq [] s = .next s := rfl

@[simp] theorem execSeq_cons (i : Instr) (is : List Instr) (s : State) :
    execSeq (i :: is) s = andThen (exec i s) (execSeq is) := rfl

end Sys2Proof.Machine
end

