-- ==== Sys2Proof/Laws/Decode.lean ====
section
/-! SUPPORT. The fields of a packed command word, and the width of an encoded one. -/

namespace Sys2Proof

theorem bitOf_le (b : Bool) : bitOf b ≤ 1 := by cases b <;> decide

/-- A packed word splits at the field boundaries of R51. -/
theorem packCommand_eq (c : Config) (op : Nat) (pressed : Bool) (raw now : Nat) :
    packCommand c op pressed raw now =
      ((op * 8 + bitOf pressed * 4) * 2 ^ c.adcW + raw) * 2 ^ c.timeW + now := by
  unfold packCommand
  have h1 : 2 ^ (3 + c.adcW + c.timeW) = 8 * 2 ^ c.adcW * 2 ^ c.timeW := by rw [pow_add, pow_add]; norm_num
  have h2 : 2 ^ (2 + c.adcW + c.timeW) = 4 * 2 ^ c.adcW * 2 ^ c.timeW := by rw [pow_add, pow_add]; norm_num
  rw [h1, h2]
  ring

/-- A packed word fits the `cmd` port (R50, R51). -/
theorem packCommand_lt {c : Config} {op : Nat} {pressed : Bool} {raw now : Nat} (hop : op < 8)
    (hraw : raw < 2 ^ c.adcW) (hnow : now < 2 ^ c.timeW) : packCommand c op pressed raw now < 2 ^ cmdWidth c := by
  have hw : 2 ^ cmdWidth c = (64 * 2 ^ c.adcW) * 2 ^ c.timeW := by
    unfold cmdWidth
    rw [pow_add, pow_add]
    norm_num
  have hb := bitOf_le pressed
  have h1 : (op * 8 + bitOf pressed * 4) * 2 ^ c.adcW + raw < 64 * 2 ^ c.adcW := by
    have h := Nat.mul_le_mul_right (2 ^ c.adcW) (show op * 8 + bitOf pressed * 4 ≤ 63 by omega)
    omega
  rw [packCommand_eq, hw]
  have h2 := Nat.mul_le_mul_right (2 ^ c.timeW) (Nat.succ_le_of_lt h1)
  have h3 := Nat.succ_mul ((op * 8 + bitOf pressed * 4) * 2 ^ c.adcW + raw) (2 ^ c.timeW)
  omega

/-- The fields of a packed word are the fields it was packed from (R51). -/
theorem fieldNow_packCommand {c : Config} {op : Nat} {pressed : Bool} {raw now : Nat} (hnow : now < 2 ^ c.timeW) :
    fieldNow c (packCommand c op pressed raw now) = now := by
  rw [packCommand_eq, fieldNow, Nat.add_comm, Nat.add_mul_mod_self_right, Nat.mod_eq_of_lt hnow]

theorem packCommand_div_now {c : Config} {op : Nat} {pressed : Bool} {raw now : Nat} (hnow : now < 2 ^ c.timeW) :
    packCommand c op pressed raw now / 2 ^ c.timeW = (op * 8 + bitOf pressed * 4) * 2 ^ c.adcW + raw := by
  rw [packCommand_eq, Nat.add_comm, Nat.add_mul_div_right _ _ (Nat.two_pow_pos _), Nat.div_eq_of_lt hnow, Nat.zero_add]

theorem fieldRaw_packCommand {c : Config} {op : Nat} {pressed : Bool} {raw now : Nat} (hraw : raw < 2 ^ c.adcW)
    (hnow : now < 2 ^ c.timeW) : fieldRaw c (packCommand c op pressed raw now) = raw := by
  rw [fieldRaw, packCommand_div_now hnow, Nat.add_comm, Nat.add_mul_mod_self_right, Nat.mod_eq_of_lt hraw]

/-- The three top fields of a packed word, above `raw` and `now`. -/
theorem packCommand_div_raw {c : Config} {op : Nat} {pressed : Bool} {raw now : Nat} (hraw : raw < 2 ^ c.adcW)
    (hnow : now < 2 ^ c.timeW) :
    packCommand c op pressed raw now / 2 ^ (c.adcW + c.timeW) = op * 8 + bitOf pressed * 4 := by
  rw [Nat.add_comm, pow_add, ← Nat.div_div_eq_div_mul, packCommand_div_now hnow, Nat.add_comm,
    Nat.add_mul_div_right _ _ (Nat.two_pow_pos _), Nat.div_eq_of_lt hraw, Nat.zero_add]

theorem fieldPressed_packCommand {c : Config} {op : Nat} {pressed : Bool} {raw now : Nat} (hraw : raw < 2 ^ c.adcW)
    (hnow : now < 2 ^ c.timeW) : fieldPressed c (packCommand c op pressed raw now) = pressed := by
  have h : packCommand c op pressed raw now / 2 ^ (2 + c.adcW + c.timeW) = (op * 8 + bitOf pressed * 4) / 4 := by
    rw [← packCommand_div_raw hraw hnow, Nat.div_div_eq_div_mul, show 2 + c.adcW + c.timeW = c.adcW + c.timeW + 2 by omega,
      pow_add]
    norm_num
  unfold fieldPressed
  rw [h]
  cases pressed <;> simp [bitOf] <;> omega

theorem fieldOp_packCommand {c : Config} {op : Nat} {pressed : Bool} {raw now : Nat} (hraw : raw < 2 ^ c.adcW)
    (hnow : now < 2 ^ c.timeW) : fieldOp c (packCommand c op pressed raw now) = Fin.ofNat 8 op := by
  have hb := bitOf_le pressed
  have h : packCommand c op pressed raw now / 2 ^ (3 + c.adcW + c.timeW) = op := by
    rw [show 3 + c.adcW + c.timeW = c.adcW + c.timeW + 3 by omega, pow_add, ← Nat.div_div_eq_div_mul,
      packCommand_div_raw hraw hnow]
    norm_num
    omega
  rw [fieldOp, h]

end Sys2Proof
end

