-- ==== Sys2Proof/Laws/PerInstr.lean ====
section
/-! SUPPORT. Statements made for each instruction as syntax. EncodingFits: a well-formed operation's encoding fits its port. -/

namespace Sys2Proof.Laws.EncodingFits

/-- The encoding of `i` fits the port it is encoded for, whatever the parameters (R50, R51). -/
def Statement (i : Instr) : Prop := ∀ c : Config, i.wellFormed c = true → (encode c i).fits c

theorem pulse : Statement .pulse := fun _ _ => Nat.le_refl 1

theorem nop : Statement .nop := fun _ _ =>
  packCommand_lt (by decide) (Nat.two_pow_pos _) (Nat.two_pow_pos _)

theorem rdrst : Statement .rdrst := fun _ _ =>
  packCommand_lt (by decide) (Nat.two_pow_pos _) (Nat.two_pow_pos _)

theorem observe (now : Nat) : Statement (.observe now) := fun _ h =>
  packCommand_lt (by decide) (Nat.two_pow_pos _) (of_decide_eq_true h)

theorem potcond (raw : Nat) : Statement (.potcond raw) := fun _ h =>
  packCommand_lt (by decide) (of_decide_eq_true h) (Nat.two_pow_pos _)

theorem cruise (pressed : Bool) (now : Nat) : Statement (.cruise pressed now) := fun _ h =>
  packCommand_lt (by decide) (Nat.two_pow_pos _) (of_decide_eq_true h)

theorem slew : Statement .slew := fun _ _ =>
  packCommand_lt (by decide) (Nat.two_pow_pos _) (Nat.two_pow_pos _)

theorem cycle (pressed : Bool) (raw now : Nat) : Statement (.cycle pressed raw now) := fun _ h =>
  packCommand_lt (by decide) (of_decide_eq_true (Bool.and_eq_true_iff.mp h).1)
    (of_decide_eq_true (Bool.and_eq_true_iff.mp h).2)

theorem reserved111 : Statement .reserved111 := fun _ _ =>
  packCommand_lt (by decide) (Nat.two_pow_pos _) (Nat.two_pow_pos _)

end Sys2Proof.Laws.EncodingFits
end

