-- ==== Sys2Proof/Tests/Slice0.lean ====
section
/-! SUPPORT. Tests of the model against values written out from the spec (`test_…`; the source of each stands before it), and for
every statement with hypotheses a state and operands that meet all of them (`witness_…`). -/

namespace Sys2Proof.Tests

open Sys2Proof.Machine Sys2Proof.Safety

/-- The state after reset, for the default parameters. -/
abbrev r0 : State := State.reset

/-- A sample that issues a command word. -/
abbrev word (w : Nat) : InputSample := { cmdValid := true, cmd := w }

/-- A sample with a PULSE alone. -/
abbrev beat : InputSample := { pulse := true }

/-- A sample that issues a command word in the clock period of a PULSE. -/
abbrev wordAndBeat (w : Nat) : InputSample := { pulse := true, cmdValid := true, cmd := w }

/-- A sample that issues RDRST in the clock period of a reset. -/
abbrev resetAndRead : InputSample := { rst := true, pulse := true, cmdValid := true, cmd := 0x200000000000 }

/-! ### WellFormed: an ill-formed term for each check (R51) -/

theorem test_wf_observe_now_too_wide : (Instr.observe (2 ^ 32)).wellFormed Config.default = false := by decide
theorem test_wf_potcond_raw_too_wide : (Instr.potcond 1024).wellFormed Config.default = false := by decide
theorem test_wf_cruise_now_too_wide : (Instr.cruise true (2 ^ 32)).wellFormed Config.default = false := by decide
theorem test_wf_cycle_raw_too_wide : (Instr.cycle false 1024 0).wellFormed Config.default = false := by decide
theorem test_wf_cycle_now_too_wide : (Instr.cycle false 0 (2 ^ 32)).wellFormed Config.default = false := by decide
theorem test_wf_largest_operands : (Instr.cycle true 1023 (2 ^ 32 - 1)).wellFormed Config.default = true := by decide

/-! ### Parameters: the defaults, and one that breaks R3 -/

theorem test_default_config_is_valid : Config.default.Valid := by decide
theorem test_ppr_zero_is_refused : step { r0 with cfg := { Config.default with ppr := 0 } } = .refused .badConfig := rfl
/-- R2: `DEBOUNCE_TICKS` is 200 for the defaults. -/
theorem test_default_debounce_ticks : debounceTicks Config.default = 200 := by decide

/-! ### Decoding: words from the bits of R51 and R52, and from spec/95_test_vectors.md sections 2.1, 2.6 and 2.7 -/

theorem test_decode_pulse : decode Config.default (.pulsePort 1) = .ok .pulse := rfl
theorem test_decode_pulse_port_low : decode Config.default (.pulsePort 0) = .error .noPulseEvent := rfl
theorem test_decode_nop_ignored_bits : decode Config.default (.command 0x0FFFFFFFFFFF) = .ok .nop := rfl
theorem test_decode_rdrst_ignored_bits : decode Config.default (.command 0x3FFFFFFFFFFF) = .ok .rdrst := rfl
/-- `op = 010`, `now = 1500`. -/
theorem test_decode_observe :
    decode Config.default (.command 0b010000000000000000000000000000000000010111011100) = .ok (.observe 1500) := rfl
/-- `op = 011`, `raw = 512`. -/
theorem test_decode_potcond :
    decode Config.default (.command 0b011000100000000000000000000000000000000000000000) = .ok (.potcond 512) := rfl
/-- `pressed` and the two reserved bits set, and ignored. -/
theorem test_decode_potcond_ignored_bits : decode Config.default (.command 0x7C0000000000) = .ok (.potcond 0) := rfl
theorem test_decode_cruise : decode Config.default (.command 0x9000000004B0) = .ok (.cruise true 1200) := rfl
theorem test_decode_slew : decode Config.default (.command 0xA00000000000) = .ok .slew := rfl
theorem test_decode_cycle : decode Config.default (.command 0xD2BC000003E8) = .ok (.cycle true 700 1000) := rfl
theorem test_decode_cycle_full_fields :
    decode Config.default (.command 0xC3FFFFFFFFFF) = .ok (.cycle false 1023 0xFFFFFFFF) := rfl
theorem test_decode_reserved : decode Config.default (.command 0xE00000000000) = .ok .reserved111 := rfl
/-- 49 bits do not fit the port. -/
theorem test_decode_too_wide : decode Config.default (.command (2 ^ 48)) = .error .commandTooWide := rfl
/-- With `ADC_W = 12` and `TIME_W = 16` the word has 34 bits, and `op` is bits 33:31 (R51, general column). -/
theorem test_decode_other_widths :
    decode { Config.default with adcW := 12, timeW := 16, rawMax := 4095 }
      (.command 0b1101000010101111000000001111101000) = .ok (.cycle true 700 1000) := rfl
theorem test_table_word_pulse : decodeTableWord 8 1 = some .pulse := rfl
theorem test_table_word_slew : decodeTableWord 48 0xA00000000000 = some .slew := rfl
theorem test_first_step_after_reset_runs_the_offered_word :
    step (r0.withFetchWord 48 0x620000000000) = exec (.potcond 512) r0 := rfl

/-! ### One step of each operation: spec/95_test_vectors.md section 2 -/

/-- Section 2.1 line 2. -/
theorem test_pulse : exec .pulse { r0 with count := 2 } = .next { r0 with count := 3 } := rfl
/-- Section 2.1 line 3, both columns. -/
theorem test_pulse_at_the_top :
    exec .pulse { r0 with count := 0xFFFFFFFF } = .next r0 ∧
      checkedExec .pulse { r0 with count := 0xFFFFFFFF } = .fault .counterOverflow := ⟨rfl, rfl⟩
/-- Section 2.1 line 4. -/
theorem test_rdrst :
    exec .rdrst { r0 with count := 5, acc := 1, rdVal := 9 } = .next { r0 with rdVal := 5, acc := 6 } := rfl
/-- Section 2.1 line 8. -/
theorem test_rdrst_saturates :
    exec .rdrst { r0 with count := 5, acc := 0xFFFFFFFE } = .next { r0 with rdVal := 5, acc := 0xFFFFFFFF } := rfl
/-- Section 2.1 line 9. -/
theorem test_pulse_with_rdrst :
    step { r0 with count := 4, inputs := [wordAndBeat 0x200000000000] } =
      .next { r0 with count := 1, rdVal := 4, acc := 4 } := rfl
/-- Section 2.2 line 3. -/
theorem test_observe :
    exec (.observe 2000) { r0 with count := 1, acc := 2, ts := 1500, spdNz := true, spdPeriod := 1500 } =
      .next { r0 with rdVal := 1, acc := 0, ts := 2000, spdNz := true, spdPeriod := 500, fresh := true } := rfl
/-- Section 2.2 line 8: the timestamp wraps. -/
theorem test_observe_wrap :
    exec (.observe 0x100) { r0 with count := 3, ts := 0xFFFFFF00 } =
      .next { r0 with rdVal := 3, ts := 0x100, spdNz := true, spdPeriod := 512, fresh := true } := rfl
/-- Section 2.2 line 6. -/
theorem test_observe_degenerate :
    exec (.observe 500) { r0 with count := 3, ts := 500, spdNz := true, spdPeriod := 1500 } =
      .next { r0 with rdVal := 3, acc := 3, ts := 500, spdNz := true, spdPeriod := 1500, degen := true } := rfl
/-- Section 2.3, the two sides of the dead zone. -/
theorem test_potcond_dead_zone :
    exec (.potcond 10) { r0 with spNum := 500 } = .next r0 ∧ exec (.potcond 11) r0 = .next { r0 with spNum := 220 } := ⟨rfl, rfl⟩
/-- Section 2.3, the clamp of a configuration with `RAW_MAX = 1000`. -/
theorem test_potcond_clamp :
    exec (.potcond 1023) { r0 with cfg := { Config.default with rawMax := 1000 } } =
      .next { r0 with cfg := { Config.default with rawMax := 1000 }, spNum := 20000 } := by
  simp [exec, execPotcond, condition, deadZoneNum, writeSetpoint, Config.default]
/-- Section 2.4 line 5: accepted at exactly 200 ticks. -/
theorem test_cruise_accepted :
    exec (.cruise true 1200) { r0 with cruise := .engaged, dbValid := true, dbTime := 1000 } =
      .next { r0 with btnPrev := true, dbValid := true, dbTime := 1200, evtToggle := true } := by
  simp [exec, execCruise, driftPhase_eq, buttonPhase_eq, toggles, edgeSeen, quiet, driftDisengages, driftHolds, elapsed,
    debounceTicks, otherState, absDiff, State.reset, Config.default]
/-- Section 2.4 line 12: the tie-break. -/
theorem test_cruise_tie_break :
    exec (.cruise true 100) { r0 with spNum := 10240 } =
      .next { r0 with spNum := 10240, spPrevNum := 10240, btnPrev := true, dbValid := true, dbTime := 100,
                      evtToggle := true, evtDrift := true } := rfl
/-- Section 2.5 line 6. -/
theorem test_slew_down : exec .slew { r0 with cur := 21 } = .next { r0 with cur := 1 } := rfl
/-- Section 2.5 line 11. -/
theorem test_slew_from_speed :
    exec .slew { r0 with cruise := .engaged, spdNz := true, spdPeriod := 3001, cur := 240 } =
      .next { r0 with cruise := .engaged, spdNz := true, spdPeriod := 3001, cur := 254, tgt := 254 } := rfl
/-- Section 2.6 line 1. -/
theorem test_cycle :
    exec (.cycle false 512 100) r0 =
      .next { r0 with spNum := 10240, spPrevNum := 10240, tgt := 127, cur := 20 } := rfl
/-- Section 2.6 line 4. -/
theorem test_cycle_with_a_sample :
    exec (.cycle false 0 1500) { r0 with count := 3 } =
      .next { r0 with rdVal := 3, spdNz := true, spdPeriod := 1500, ts := 1500, fresh := true } := rfl
/-- Section 2.6 line 8. -/
theorem test_nop_with_a_pulse :
    step { r0 with count := 2, inputs := [wordAndBeat 0] } = .next { r0 with count := 3 } := rfl
/-- Section 2.6 line 7, both columns. -/
theorem test_reserved :
    step { r0 with inputs := [word 0xE00000000000] } = .next r0 ∧
      checkedStep { r0 with inputs := [word 0xE00000000000] } = .refused .reservedOp := ⟨rfl, rfl⟩
/-- R156: reset with a PULSE and a command. -/
theorem test_reset_wins : step { r0 with count := 7, cur := 9, inputs := [resetAndRead] } = .next r0 := rfl

/-! ### Witnesses: for every statement with hypotheses, values that meet all of them, at the bounds of each clause -/

/-- The configuration of section 2.3's last note: the clamp acts. -/
abbrev narrow : State := { r0 with cfg := { Config.default with rawMax := 1000 } }

/-- Engaged, with a sample of the given period. -/
abbrev driving (period : Nat) : State := { r0 with cruise := .engaged, spdNz := true, spdPeriod := period, cur := 240 }

/-- `PULSE x3`, a PULSE with RDRST, `OBSERVE now=1500`, a PULSE. -/
abbrev counted : List InputSample := [beat, beat, beat, wordAndBeat 0x200000000000, word 0x4000000005DC, beat]

/-- The same run with a reset, and a PULSE lost to it, before its last two samples. -/
abbrev countedWithReset : List InputSample :=
  [beat, beat, beat, wordAndBeat 0x200000000000, { rst := true, pulse := true }, beat, word 0x200000000000]

/-- Two presses 200 ticks apart, with a release between them. -/
abbrev twoPresses : List InputSample := [word 0x900000000064, word 0x8000000000C8, word 0x90000000012C]

/-- The same with the second press one tick earlier: still quiet. -/
abbrev twoPressesTooClose : List InputSample := [word 0x900000000064, word 0x8000000000C8, word 0x90000000012B]

theorem witness_PulsesWithoutAReadWrapAndAreFlagged :
    ({ r0 with count := 2 ^ 32 - 1 } : State).count < 2 ^ r0.cfg.cntW ∧
      ({ r0 with count := 2 ^ 32 - 1 } : State).count = 2 ^ r0.cfg.cntW - 1 := by decide

/-- A command that reads (with the PULSE, and with `count` at its top), and one that does not. -/
theorem witness_CoincidentPulseSurvivesTheRead :
    r0.cfg.Valid ∧ 2 ^ 32 - 1 < 2 ^ r0.cfg.cntW ∧
      (wordAndBeat 0xD2BC000003E8).rst = false ∧ (wordAndBeat 0xD2BC000003E8).cmd < 2 ^ cmdWidth r0.cfg ∧
      ((issuedCommand r0.cfg (wordAndBeat 0xD2BC000003E8)).map readsCounter).getD false = true ∧
      ((issuedCommand r0.cfg (wordAndBeat 0xA00000000000)).map readsCounter).getD false = false ∧
      beat.rst = false ∧ beat.cmd < 2 ^ cmdWidth r0.cfg ∧
      ((issuedCommand r0.cfg beat).map readsCounter).getD false = false := by decide

theorem witness_BothOrdersOfPulseAndCommandKeepTheTotal :
    readsCounter .slew = false ∧ readsCounter .pulse = false ∧ readsCounter (.cycle true 700 1000) = true ∧
      ({ r0 with count := 2 ^ 32 - 2 } : State).count < 2 ^ r0.cfg.cntW - 1 := by decide

theorem witness_PulsesAreConserved :
    r0.cfg.Valid ∧
      (∃ t, runSamples counted (resetRegisters r0) = .next t ∧ t.count = 1 ∧ t.acc = 0) ∧
      NeverWraps counted (resetRegisters r0) ∧ pulsesSince 0 counted = 5 ∧
      (∃ t, runSamples countedWithReset (resetRegisters r0) = .next t ∧ t.count = 0) ∧
      NeverWraps countedWithReset (resetRegisters r0) ∧ pulsesSince 0 countedWithReset = 1 :=
  ⟨by decide, ⟨_, rfl, rfl, rfl⟩,
    ⟨by decide, by decide, by decide, by decide, by decide, by decide, trivial⟩, rfl,
    ⟨_, rfl, rfl⟩, ⟨by decide, by decide, by decide, by decide, by decide, by decide, by decide, trivial⟩, rfl⟩

theorem witness_PulsesAreAccountedForByTheEstimator :
    r0.cfg.Valid ∧ (∃ t, runSamples counted (resetRegisters r0) = .next t) ∧
      NeverWraps counted (resetRegisters r0) ∧ NeverSaturates counted (resetRegisters r0) ∧
      clearedSince 0 counted (resetRegisters r0) = 4 :=
  ⟨by decide, ⟨_, rfl⟩, ⟨by decide, by decide, by decide, by decide, by decide, by decide, trivial⟩,
    ⟨fun _ _ _ => by decide, fun _ _ _ => by decide, fun _ _ _ => by decide, fun _ _ _ => by decide, fun _ _ _ => by decide,
      fun _ _ _ => by decide, trivial⟩, rfl⟩

/-- One below the threshold (`PPR - 1`, section 2.2 line 11). -/
theorem witness_ObserveBelowThresholdKeepsTheSample :
    r0.cfg.Valid ∧ ({ r0 with acc := 2 } : State).acc + ({ r0 with acc := 2 } : State).count < r0.cfg.ppr := by decide

/-- At the threshold, after exactly `MIN_ELAPSED` ticks (section 2.2 line 7). -/
theorem witness_ObserveAtThresholdProducesTheSample :
    r0.cfg.Valid ∧ r0.cfg.ppr ≤ 3 + 0 ∧
      r0.cfg.minElapsed ≤ (((501 : Nat) : Int) - ((500 : Nat) : Int)) % ((2 ^ r0.cfg.timeW : Nat) : Int) := by decide

/-- Section 2.2 lines 6 and 7. -/
theorem witness_ObserveDegenerateIntervalIsRetried :
    r0.cfg.Valid ∧ r0.cfg.ppr ≤ 0 + 3 ∧ elapsed r0.cfg 500 500 < r0.cfg.minElapsed ∧
      r0.cfg.minElapsed ≤ elapsed r0.cfg 501 500 := by decide

/-- Both outcomes of a produced sample, and an accumulator that just does not saturate. -/
theorem witness_ObserveComparesTheTotalWithTheThreshold :
    r0.cfg.Valid ∧ (observation 1500 { r0 with count := 3 }).fresh = true ∧ (observation 1500 { r0 with count := 2 }).fresh = false ∧
      (2 ^ 32 - 2) + 1 < 2 ^ r0.cfg.cntW := by decide

theorem witness_ThresholdDesignShowsTheSameSamples :
    r0.cfg.Valid ∧ WidthInv { r0 with count := 2, acc := 1 } ∧
      (⟨3, 0, false, 0, false, false⟩ : ThresholdDesign).total = 1 + 2 ∧
      (⟨3, 0, false, 0, false, false⟩ : ThresholdDesign).view = estimatorView { r0 with count := 2, acc := 1 } ∧
      NeverWrapsSeq [.rdrst, .pulse, .observe 1500] { r0 with count := 2, acc := 1 } :=
  ⟨by decide, ⟨by decide, by decide, by decide, by decide, by decide, by decide⟩, rfl, rfl, by decide, by decide, by decide, trivial⟩

theorem witness_SpeedChangesOnlyInAFreshSample :
    r0.cfg.Valid ∧ observeNow (.cycle false 0 1500) = some 1500 ∧ (observation 1500 { r0 with count := 3 }).fresh = true ∧
      r0.cfg.minElapsed ≤ elapsed r0.cfg 1500 r0.ts := by decide

theorem witness_PotcondFiltersTheExactScaledSample : r0.cfg.Valid ∧ narrow.cfg.Valid := by decide

theorem witness_PotcondIntegerForm :
    r0.cfg.Valid ∧ narrow.cfg.Valid ∧ r0.cfg = Config.default ∧ 10 < 2 ^ 10 ∧ 11 < 2 ^ 10 ∧ 1023 < 2 ^ 10 := by decide

theorem witness_PotcondIsPure : r0.cfg = ({ r0 with spNum := 500, cur := 7 } : State).cfg := rfl

/-- In a valid configuration: a quiet period one tick from its end and at its end, an edge, and drift at either side of `DRIFT`. -/
theorem witness_CruiseUpdatesTheStateMachine :
    r0.cfg.Valid ∧ quiet 1199 { r0 with dbValid := true, dbTime := 1000 } = true ∧
      quiet 1200 { r0 with dbValid := true, dbTime := 1000 } = false ∧
      toggles true 1200 { r0 with dbValid := true, dbTime := 1000 } = true ∧ toggles true 1200 { r0 with btnPrev := true } = false ∧
      driftHolds { r0 with spNum := 512 } = true ∧ driftHolds { r0 with spNum := 511 } = false := by decide

/-- Section 2.4's notes: raw samples 475 and 500 do not drift, 474 and 500 do. -/
theorem witness_DriftIntegerForm :
    r0.cfg.Valid ∧ r0.cfg = Config.default ∧ 10 < 474 ∧ 474 < 1024 ∧ 10 < 500 ∧ 500 < 1024 ∧
      deadZoneNum r0.cfg 474 = 9480 ∧ deadZoneNum r0.cfg 475 = 9500 ∧ deadZoneNum r0.cfg 500 = 10000 := by decide

/-- Each premise of the inner clauses: Engaged after a toggle, Engaged kept, and drift that ends Disengaged. -/
theorem witness_CruiseTransitionsAreTheAllowedOnes :
    r0.cfg.Valid ∧
      (driftPhase (buttonPhase true 1000 r0)).cruise = .engaged ∧ (driftPhase (buttonPhase true 1000 r0)).evtToggle = true ∧
      (driftPhase (buttonPhase false 20 { r0 with cruise := .engaged })).cruise = .engaged ∧
      driftHolds { r0 with cruise := .engaged, spNum := 512 } = true ∧
      (Instr.cycle true 512 100 = .cruise true 100 ∨ ∃ raw, Instr.cycle true 512 100 = .cycle true raw 100) :=
  ⟨by decide, by decide, by decide, by decide, by decide, .inr ⟨512, rfl⟩⟩

theorem witness_AcceptedEdgesAreADebounceIntervalApart :
    r0.cfg.Valid ∧ NoReset twoPresses ∧ MonotoneTimes r0.cfg twoPresses ∧ (∃ t, runSamples twoPresses r0 = .next t) ∧
      acceptedEdges twoPresses r0 = [100, 300] ∧
      NoReset twoPressesTooClose ∧ MonotoneTimes r0.cfg twoPressesTooClose ∧ acceptedEdges twoPressesTooClose r0 = [100] :=
  ⟨by decide, by simp [NoReset], by simp only [MonotoneTimes]; decide, ⟨_, rfl⟩, by decide, by simp [NoReset],
    by simp only [MonotoneTimes]; decide, by decide⟩

/-- A setpoint above `DRIFT` (raw 26) and one that is not (raw 25). -/
theorem witness_FirstCycleAfterReset :
    r0.cfg.Valid ∧ ({ r0 with spNum := 520 } : State).sp > r0.cfg.drift ∧ ¬ ({ r0 with spNum := 500 } : State).sp > r0.cfg.drift ∧
      deadZoneNum r0.cfg 26 = 520 ∧ deadZoneNum r0.cfg 25 = 500 := by
  refine ⟨by decide, ?_, ?_, by decide, by decide⟩ <;>
    norm_num [State.sp, setpointFrac, Frac.toRat, Config.drift, State.reset, Config.default]

theorem witness_SlewStepsTowardTheExactTarget : r0.cfg.Valid ∧ (driving 3000).cfg.Valid ∧ narrow.cfg.Valid := by decide

/-- Disengaged; Engaged without a sample; Engaged at each boundary of R123. -/
theorem witness_DutyTargetIntegerForms :
    r0.cfg.Valid ∧ r0.cruise = .disengaged ∧ ({ r0 with cruise := .engaged } : State).spdNz = false ∧
      (driving 3000).cfg = Config.default ∧ (driving 3000).cruise = .engaged ∧ (driving 3000).spdNz = true ∧
      0 < (driving 3000).spdPeriod ∧ 0 < (driving 3001).spdPeriod ∧ 0 < (driving 765000).spdPeriod ∧
      0 < (driving 765001).spdPeriod := by decide

theorem witness_DutyChangesByAtMostOneStep :
    ({ r0 with cur := 255 } : State).cur ≤ r0.cfg.maxDuty ∧ r0.cur ≤ r0.cfg.maxDuty := by decide

/-- Above the target and below it, and a run that has just reached it: 49 to 0 in three steps of 20. -/
theorem witness_SlewReachesItsTargetAndStays :
    r0.cfg.Valid ∧ (∃ t, exec .slew { r0 with cur := 49 } = .next t ∧ t.tgt ≤ 49) ∧
      (∃ t, exec .slew { r0 with spNum := 20460 } = .next t ∧ 0 ≤ t.tgt) ∧
      ⌈(|((49 : Int) - (0 : Int))| : ℚ) / (r0.cfg.dutyStep : ℚ)⌉ ≤ ((2 : Nat) : Int) + 1 := by
  refine ⟨by decide, ⟨_, rfl, by decide⟩, ⟨_, rfl, by decide⟩, ?_⟩
  rw [Int.ceil_le]
  norm_num [State.reset, Config.default]

/-- Section 2.6 lines 6 and 8: every ignored bit set, with a PULSE and without. -/
theorem witness_NopChangesNothing :
    r0.cfg.Valid ∧ (wordAndBeat 0x1FFFFFFFFFFF).rst = false ∧ (wordAndBeat 0x1FFFFFFFFFFF).cmdValid = true ∧
      (wordAndBeat 0x1FFFFFFFFFFF).cmd < 2 ^ cmdWidth r0.cfg ∧ fieldOp r0.cfg (wordAndBeat 0x1FFFFFFFFFFF).cmd = 0 ∧
      (word 0).rst = false ∧ (word 0).cmdValid = true ∧ (word 0).cmd < 2 ^ cmdWidth r0.cfg ∧
      fieldOp r0.cfg (word 0).cmd = 0 := by decide

theorem witness_ReservedCodeChangesNothingAndIsFlagged :
    0xE00000000000 < 2 ^ cmdWidth Config.default ∧ fieldOp Config.default 0xE00000000000 = 7 ∧
      0xFFFFFFFFFFFF < 2 ^ cmdWidth Config.default ∧ fieldOp Config.default 0xFFFFFFFFFFFF = 7 ∧
      0xDFFFFFFFFFFF < 2 ^ cmdWidth Config.default ∧ fieldOp Config.default 0xDFFFFFFFFFFF = 6 := by decide

theorem witness_DecodeOfEncodeIsTheOperation :
    (Instr.cycle true 1023 (2 ^ 32 - 1)).wellFormed Config.default = true ∧ (Instr.observe 0).wellFormed Config.default = true ∧
      Instr.reserved111.wellFormed Config.default = true := by decide

/-- Two words of POTCOND that differ in every ignored bit. -/
theorem witness_OnlyOpAndUsedFieldsDecode :
    let c := Config.default
    0x600B00000000 < 2 ^ cmdWidth c ∧ 0x7C0BFFFFFFFF < 2 ^ cmdWidth c ∧ fieldOp c 0x7C0BFFFFFFFF = fieldOp c 0x600B00000000 ∧
      (fieldOp c 0x600B00000000 = 4 ∨ fieldOp c 0x600B00000000 = 6 → fieldPressed c 0x7C0BFFFFFFFF = fieldPressed c 0x600B00000000) ∧
      (fieldOp c 0x600B00000000 = 3 ∨ fieldOp c 0x600B00000000 = 6 → fieldRaw c 0x7C0BFFFFFFFF = fieldRaw c 0x600B00000000) ∧
      (fieldOp c 0x600B00000000 = 2 ∨ fieldOp c 0x600B00000000 = 4 ∨ fieldOp c 0x600B00000000 = 6 →
        fieldNow c 0x7C0BFFFFFFFF = fieldNow c 0x600B00000000) := by decide

theorem witness_ResetGivesEveryRegisterItsResetValue :
    ({ r0 with count := 7, inputs := [resetAndRead] } : State).cfg.Valid ∧
      ({ r0 with count := 7, inputs := [resetAndRead] } : State).inputs = [resetAndRead] ∧ resetAndRead.rst = true := by decide

/-- A command alone, a command with a PULSE, a PULSE alone. -/
theorem witness_StepRunsTheDecodedOperation :
    r0.cfg.Valid ∧ (word 0xA00000000000).rst = false ∧ (word 0xA00000000000).cmdValid = true ∧
      decode r0.cfg (.command (word 0xA00000000000).cmd) = .ok .slew ∧ (word 0xA00000000000).pulse = false ∧
      (wordAndBeat 0xA00000000000).rst = false ∧ (wordAndBeat 0xA00000000000).cmdValid = true ∧
      decode r0.cfg (.command (wordAndBeat 0xA00000000000).cmd) = .ok .slew ∧ (wordAndBeat 0xA00000000000).pulse = true ∧
      (∃ u, exec .slew r0 = .next u) ∧ beat.rst = false ∧ beat.cmdValid = false ∧ beat.pulse = true :=
  ⟨by decide, rfl, rfl, rfl, rfl, rfl, rfl, rfl, rfl, ⟨_, rfl⟩, rfl, rfl, rfl⟩

theorem witness_StepRunsTheOfferedTableWord :
    r0.cfg = Config.default ∧ decodeTableWord 48 0xC3FFFFFFFFFF = some (.cycle false 1023 0xFFFFFFFF) ∧
      decodeTableWord 8 1 = some .pulse := ⟨rfl, rfl, rfl⟩

theorem witness_NothingArrivingHoldsEveryRegister :
    r0.cfg.Valid ∧ r0.inputs = [] ∧ ({} : InputSample).rst = false ∧ ({} : InputSample).cmdValid = false ∧
      ({} : InputSample).pulse = false := by decide

/-- A configuration that breaks R3; a command that fits the port, and one that does not. -/
theorem witness_EveryStepCompletes :
    ¬ { Config.default with tsr := 0 }.Valid ∧ r0.cfg.Valid ∧ (word (2 ^ 48 - 1)).cmd < 2 ^ cmdWidth r0.cfg ∧
      ¬ (word (2 ^ 48)).cmd < 2 ^ cmdWidth r0.cfg := by decide

theorem witness_ParametersNeverChange :
    (∃ t, step { r0 with inputs := [beat] } = .next t) ∧ ∃ t, checkedStep { r0 with inputs := [beat] } = .next t :=
  ⟨⟨_, rfl⟩, ⟨_, rfl⟩⟩

/-- A state that no reset leaves: a sample, a setpoint of raw 512, a moving duty. -/
theorem witness_StepKeepsTheStateInvariant :
    StateInv { r0 with spdNz := true, spdPeriod := 1, spNum := 10240, cur := 255, tgt := 127, inputs := [word 0xA00000000000] } ∧
      ∃ t, step { r0 with spdNz := true, spdPeriod := 1, spNum := 10240, cur := 255, tgt := 127,
                          inputs := [word 0xA00000000000] } = .next t :=
  ⟨{ valid := by decide
     width := ⟨by decide, by decide, by decide, by decide, by decide, by decide⟩
     no_sample := by decide
     sample := by decide
     sp_range := ⟨by decide, .inr ⟨by decide, 512, by decide, by decide⟩⟩
     spPrev_range := ⟨by decide, .inl rfl⟩
     cur_le := by decide
     tgt_le := by decide }, ⟨_, rfl⟩⟩

theorem witness_ResetMeetsTheStateInvariant : narrow.cfg.Valid ∧ r0.cfg.Valid := by decide

/-- The largest value of each port. -/
theorem witness_OutputsFitTheirPorts :
    StateInv { r0 with rdVal := 2 ^ 32 - 1, spdNz := true, spdPeriod := 2 ^ 32 - 1, spNum := 20460, cruise := .engaged,
                       cur := 255, tgt := 255 } where
  valid := by decide
  width := ⟨by decide, by decide, by decide, by decide, by decide, by decide⟩
  no_sample := by decide
  sample := by decide
  sp_range := ⟨by decide, .inr ⟨by decide, 1023, by decide, by decide⟩⟩
  spPrev_range := ⟨by decide, .inl rfl⟩
  cur_le := by decide
  tgt_le := by decide

/-- One operation that the column lists and one that it does not, for each row. -/
theorem witness_OperationsWriteOnlyTheirRegisters :
    readsCounter .slew = false ∧ observeNow .rdrst = none ∧ updatesCruise .slew = false ∧ Instr.slew ≠ .pulse ∧
      (∀ raw, Instr.slew ≠ .potcond raw) ∧ (∀ pressed raw now, Instr.rdrst ≠ .cycle pressed raw now) ∧ Instr.rdrst ≠ .slew := by
  simp [readsCounter, observeNow, updatesCruise]

/-- Two states that agree on what RDRST, OBSERVE, CRUISE and SLEW read, and differ elsewhere. -/
theorem witness_OperationsReadOnlyTheirRegisters :
    let s : State := { r0 with count := 3, cur := 10 }
    let s' : State := { r0 with count := 3, cur := 10, rdVal := 9, tgt := 7, fresh := true }
    s ≠ s' ∧ s.cfg = s'.cfg ∧ s.count = s'.count ∧ s.acc = s'.acc ∧ s.ts = s'.ts ∧ s.cruise = s'.cruise ∧ s.btnPrev = s'.btnPrev ∧
      s.spNum = s'.spNum ∧ s.spPrevNum = s'.spPrevNum ∧ s.dbValid = s'.dbValid ∧ s.dbTime = s'.dbTime ∧ s.spdNz = s'.spdNz ∧
      s.spdPeriod = s'.spdPeriod ∧ s.cur = s'.cur ∧ (observation 1500 s).fresh = true := by decide

theorem witness_IdempotentOperations :
    ∃ t, exec .slew { r0 with spNum := 220 } = .next t ∧ t.cur = t.tgt ∧ t.cur = 2 := ⟨_, rfl, rfl, rfl⟩

theorem witness_StepsRunThePendingSamples : r0.cfg.Valid := by decide

/-- Each clause: `op = 111` (with a PULSE at the top as well), an overflow, the PULSE of a read at the top, an invalid configuration. -/
theorem witness_CheckedMachineStopsExactlyAtTheFlaggedConditions :
    r0.cfg.Valid ∧ (wordAndBeat 0xE00000000000).cmd < 2 ^ cmdWidth r0.cfg ∧
      issuedCommand r0.cfg (wordAndBeat 0xE00000000000) = some .reserved111 ∧
      beat.cmd < 2 ^ cmdWidth r0.cfg ∧ issuedCommand r0.cfg beat = none ∧ beat.rst = false ∧ beat.pulse = true ∧
      ({ r0 with count := 2 ^ 32 - 1, inputs := [beat] } : State).count = 2 ^ r0.cfg.cntW - 1 ∧
      issuedCommand r0.cfg (wordAndBeat 0x200000000000) = some .rdrst ∧
      ((issuedCommand r0.cfg (wordAndBeat 0x200000000000)).map readsCounter).getD false = true ∧
      ¬ { Config.default with rawMax := 0 }.Valid := by decide

end Sys2Proof.Tests
end

/-! Proofs about every step: what holds of the meaning of an operation holds of the step, and the parameters of R1. -/

namespace Sys2Proof.Machine

/-! ### From operations to steps -/

/-- Where the checked machine goes on, it does what the core machine does (R145). -/
theorem exec_of_checkedExec {i : Instr} {s t : State} (h : checkedExec i s = .next t) : exec i s = .next t := by
  cases i with
  | pulse =>
    by_cases hc : s.count = countMax s.cfg
    · simp [checkedExec, hc] at h
    · simpa [checkedExec, hc] using h
  | reserved111 => cases h
  | nop | rdrst | observe | potcond | cruise | slew | cycle => exact h

section StepKeeps

/-! A property of states that reset and every decoded operation keep is kept by a sample; if it does not depend on the pending samples,
it is kept by a step. -/

variable {P : State → Prop} {run : Instr → State → Out}
  (hreset : ∀ s, P s → P (resetRegisters s))
  (hrun : ∀ w i s t, decode s.cfg w = .ok i → P s → run i s = .next t → P t)

include hrun in
theorem commandPart_keeps {p : InputSample} {s u : State} (hs : P s) (h : commandPart run p s = .next u) : P u := by
  obtain ⟨-, rfl⟩ | ⟨-, i, hd, hi⟩ := commandPart_cases h
  · exact hs
  · exact hrun _ i s u hd hs hi

include hrun in
theorem pulsePart_keeps {p : InputSample} {u t : State} (hu : P u) (h : pulsePart run p u = .next t) : P t := by
  obtain ⟨-, rfl⟩ | ⟨-, hp⟩ := pulsePart_cases h
  · exact hu
  · exact hrun (.pulsePort 1) .pulse u t rfl hu hp

include hreset hrun in
theorem clockWith_keeps {p : InputSample} {s t : State} (hs : P s) (h : clockWith run p s = .next t) : P t := by
  obtain ⟨-, rfl⟩ | ⟨-, u, hc, hp⟩ := clockWith_cases h
  · exact hreset s hs
  · exact pulsePart_keeps hrun (commandPart_keeps hrun hs hc) hp

include hreset hrun in
theorem stepWith_keeps (hinputs : ∀ ps s, P s → P (setInputs ps s)) {s t : State} (hs : P s)
    (h : stepWith run s = .next t) : P t := by
  obtain ⟨-, ⟨-, rfl⟩ | ⟨p, ps, -, hc⟩⟩ := stepWith_cases h
  · exact hs
  · exact clockWith_keeps hreset hrun (hinputs ps s hs) hc

end StepKeeps

/-! ### The parameters -/

@[simp] theorem readAndDeliver_cfg (s : State) : (readAndDeliver s).cfg = s.cfg := rfl

@[simp] theorem observation_cfg (now : Nat) (s : State) : (observation now s).cfg = s.cfg := by rw [observation_eq]

@[simp] theorem condition_cfg (raw : Nat) (s : State) : (condition raw s).cfg = s.cfg := rfl

@[simp] theorem buttonPhase_cfg (pressed : Bool) (now : Nat) (s : State) : (buttonPhase pressed now s).cfg = s.cfg := by
  rw [buttonPhase_eq]

@[simp] theorem driftPhase_cfg (s : State) : (driftPhase s).cfg = s.cfg := by rw [driftPhase_eq]

@[simp] theorem motorCommand_cfg (s : State) : (motorCommand s).cfg = s.cfg := rfl

/-- No operation changes the parameters (R1). -/
theorem exec_cfg {i : Instr} {s t : State} (h : exec i s = .next t) : t.cfg = s.cfg := by
  cases i <;> cases h <;> simp

/-- A step whose operations all keep the parameters keeps them. -/
theorem stepWith_cfg {run : Instr → State → Out} (hrun : ∀ {i s t}, run i s = .next t → t.cfg = s.cfg) {s t : State}
    (h : stepWith run s = .next t) : t.cfg = s.cfg :=
  stepWith_keeps (P := fun u => u.cfg = s.cfg) (fun u hu => (resetRegisters_cfg u).trans hu)
    (fun _ _ _ _ _ hu hi => (hrun hi).trans hu) (fun ps u hu => (setInputs_cfg ps u).trans hu) rfl h

/-- Settles O41: every operation of either machine keeps the parameters, and so do a reset and the taking of a sample. -/
theorem parametersNeverChange : Obligations.ParametersNeverChange := by
  rintro s t (h | h)
  · exact stepWith_cfg exec_cfg h
  · exact stepWith_cfg (fun hi => exec_cfg (exec_of_checkedExec hi)) h

end Sys2Proof.Machine

/-! Proofs about the state: what reset leaves in the registers, and the invariant that every step keeps (R35, R36). -/

namespace Sys2Proof

/-! ### What the decoder answers fits its fields -/

@[simp] theorem nowFits_fieldNow (c : Config) (w : Nat) : nowFits c (fieldNow c w) = true :=
  decide_eq_true (Nat.mod_lt _ (Nat.two_pow_pos _))

@[simp] theorem rawFits_fieldRaw (c : Config) (w : Nat) : rawFits c (fieldRaw c w) = true :=
  decide_eq_true (Nat.mod_lt _ (Nat.two_pow_pos _))

theorem commandOf_wellFormed (c : Config) (w : Nat) : (commandOf c w).wellFormed c = true := by
  unfold commandOf
  split <;> simp [Instr.wellFormed]

theorem decode_wellFormed {c : Config} {w : PortWord} {i : Instr} (h : decode c w = .ok i) : i.wellFormed c = true := by
  cases w with
  | pulsePort v =>
    by_cases hv : v = 1
    · rw [decode, if_pos hv] at h
      cases h
      rfl
    · rw [decode, if_neg hv] at h
      cases h
  | command w =>
    by_cases hw : w < 2 ^ cmdWidth c
    · rw [decode, if_pos hw] at h
      cases h
      exact commandOf_wellFormed c w
    · rw [decode, if_neg hw] at h
      cases h

end Sys2Proof

namespace Sys2Proof.Machine

/-! ### Steps that take a sample, and reset samples -/

theorem stepWith_cons (run : Instr → State → Out) {s : State} {p : InputSample} {ps : List InputSample} (hv : s.cfg.Valid)
    (hi : s.inputs = p :: ps) : stepWith run s = clockWith run p (setInputs ps s) := by
  simp only [stepWith, if_pos hv, hi]

/-- Reset beats the command and the PULSE of its sample (R156). -/
theorem clockWith_of_rst (run : Instr → State → Out) {p : InputSample} (hr : p.rst = true) (s : State) :
    clockWith run p s = .next (resetRegisters s) := by
  rw [clockWith, if_pos hr]

/-- Settles O36: a reset sample runs neither its command nor its PULSE, and `resetRegisters` is the reset table. -/
theorem resetGivesEveryRegisterItsResetValue : Obligations.ResetGivesEveryRegisterItsResetValue := by
  refine ⟨fun s p ps hv hi hr => ?_, rfl, rfl⟩
  calc step s = clockWith exec p (setInputs ps s) := stepWith_cons exec hv hi
    _ = .next (resetRegisters (setInputs ps s)) := clockWith_of_rst exec hr _

end Sys2Proof.Machine

namespace Sys2Proof.Safety

open Sys2Proof.Machine

/-! ### The invariant of the state: reset establishes it -/

theorem setpointInRange_zero (c : Config) : SetpointInRange c 0 := ⟨Nat.zero_le _, .inl rfl⟩

/-- Reset establishes the invariant from the validity of the parameters alone: every number is 0, and there is no sample. -/
theorem stateInv_resetRegisters {s : State} (hv : s.cfg.Valid) : StateInv (resetRegisters s) where
  valid := hv
  width := by constructor <;> exact Nat.two_pow_pos _
  no_sample _ := rfl
  sample h := by cases h
  sp_range := setpointInRange_zero _
  spPrev_range := setpointInRange_zero _
  cur_le := Nat.zero_le _
  tgt_le := Nat.zero_le _

/-- Settles O43: `State.reset` is the reset of itself, and its parameters, the defaults, are valid. -/
theorem resetMeetsTheStateInvariant : Obligations.ResetMeetsTheStateInvariant :=
  ⟨stateInv_resetRegisters (s := State.reset) (by decide), fun _ hv => stateInv_resetRegisters hv⟩

/-! ### The invariant of the state: every update keeps it -/

/-- The dead-zone filter produces a setpoint of the range (R91 to R95). -/
theorem setpointInRange_deadZoneNum {c : Config} {raw : Nat} (hraw : rawFits c raw = true) :
    SetpointInRange c (deadZoneNum c raw) := by
  refine ⟨deadZoneNum_le c raw, ?_⟩
  obtain h | ⟨hdz, h⟩ := deadZoneNum_cases c raw
  · exact .inl h
  · exact .inr ⟨hdz, raw, hraw, h⟩

section Keeps

variable {s : State} (hs : StateInv s)
include hs

theorem setInputs_keeps_stateInv (ps : List InputSample) : StateInv (setInputs ps s) :=
  { hs with width := { hs.width with } }

theorem bumpCount_keeps_stateInv : StateInv (bumpCount s) :=
  { hs with width := { hs.width with count_lt := Nat.mod_lt _ (Nat.two_pow_pos _) } }

/-- The value read fits `rd_val` because it fitted `count`; the accumulator saturates (R73). -/
theorem readAndDeliver_keeps_stateInv : StateInv (readAndDeliver s) :=
  { hs with
    width := { hs.width with
      count_lt := Nat.two_pow_pos _
      rdVal_lt := hs.width.count_lt
      acc_lt := sat_lt _ _ } }

/-- Only a sample changes what the invariant speaks of: its period is an elapsed time, and no degenerate one (R84, R85). -/
theorem estimate_keeps_stateInv {now : Nat} (hnow : nowFits s.cfg now = true) : StateInv (estimate now s) := by
  obtain ⟨-, h⟩ | ⟨-, -, h⟩ | ⟨-, helapsed, h⟩ := estimate_cases now s
  · rw [h]
    exact { hs with width := { hs.width with } }
  · rw [h]
    exact { hs with width := { hs.width with } }
  · rw [h]
    exact { hs with
      width := { hs.width with
        acc_lt := Nat.two_pow_pos _
        ts_lt := of_decide_eq_true hnow
        spdPeriod_lt := elapsed_lt _ _ _ }
      no_sample := by simp
      sample := fun _ => helapsed }

theorem observation_keeps_stateInv {now : Nat} (hnow : nowFits s.cfg now = true) : StateInv (observation now s) :=
  estimate_keeps_stateInv (readAndDeliver_keeps_stateInv hs) hnow

theorem condition_keeps_stateInv {raw : Nat} (hraw : rawFits s.cfg raw = true) : StateInv (condition raw s) :=
  { hs with
    width := { hs.width with }
    sp_range := setpointInRange_deadZoneNum hraw }

theorem buttonPhase_keeps_stateInv (pressed : Bool) {now : Nat} (hnow : nowFits s.cfg now = true) :
    StateInv (buttonPhase pressed now s) := by
  have hdb : (if toggles pressed now s then now else s.dbTime) < 2 ^ s.cfg.timeW := by
    split
    · exact of_decide_eq_true hnow
    · exact hs.width.dbTime_lt
  rw [buttonPhase_eq]
  exact { hs with width := { hs.width with dbTime_lt := hdb } }

/-- The remembered setpoint is in range because `sp` is (R109). -/
theorem driftPhase_keeps_stateInv : StateInv (driftPhase s) := by
  rw [driftPhase_eq]
  exact { hs with
    width := { hs.width with }
    spPrev_range := hs.sp_range }

/-- The target is clamped, and `cur` stays between its old value and the target (R118, R120). -/
theorem motorCommand_keeps_stateInv : StateInv (motorCommand s) :=
  { hs with
    width := { hs.width with }
    tgt_le := dutyTarget_le _ _
    cur_le := slewStep_le hs.cur_le (dutyTarget_le _ _) }

theorem cycle_keeps_stateInv (pressed : Bool) {raw now : Nat} (hraw : rawFits s.cfg raw = true)
    (hnow : nowFits s.cfg now = true) :
    StateInv (motorCommand (driftPhase (condition raw (buttonPhase pressed now (observation now s))))) := by
  have hobserved := observation_keeps_stateInv hs hnow
  have hpressed := buttonPhase_keeps_stateInv hobserved pressed (now := now) (by simpa using hnow)
  have hconditioned := condition_keeps_stateInv hpressed (raw := raw) (by simpa using hraw)
  exact motorCommand_keeps_stateInv (driftPhase_keeps_stateInv hconditioned)

end Keeps

/-! ### The invariant of the state: every operation and every step keep it -/

theorem exec_keeps_stateInv {i : Instr} {s t : State} (hs : StateInv s) (hwf : i.wellFormed s.cfg = true)
    (h : exec i s = .next t) : StateInv t := by
  cases i with
  | pulse =>
    cases h
    exact bumpCount_keeps_stateInv hs
  | nop | reserved111 =>
    cases h
    exact hs
  | rdrst =>
    cases h
    exact readAndDeliver_keeps_stateInv hs
  | observe now =>
    cases h
    exact observation_keeps_stateInv hs hwf
  | potcond raw =>
    cases h
    exact condition_keeps_stateInv hs hwf
  | cruise pressed now =>
    cases h
    exact driftPhase_keeps_stateInv (buttonPhase_keeps_stateInv hs pressed hwf)
  | slew =>
    cases h
    exact motorCommand_keeps_stateInv hs
  | cycle pressed raw now =>
    cases h
    obtain ⟨hraw, hnow⟩ := Bool.and_eq_true_iff.mp hwf
    exact cycle_keeps_stateInv hs pressed hraw hnow

/-- Settles O42: reset, the taking of a sample and every operation the decoder can answer keep the invariant. -/
theorem stepKeepsTheStateInvariant : Obligations.StepKeepsTheStateInvariant := by
  intro s t hs h
  exact stepWith_keeps (fun _ hu => stateInv_resetRegisters hu.valid)
    (fun _ _ _ _ hd hu hi => exec_keeps_stateInv hu (decode_wellFormed hd) hi)
    (fun ps _ hu => setInputs_keeps_stateInv hu ps) hs h

end Sys2Proof.Safety

/-! Proofs about the shared counter and its order (20_memory.md): what each operation reads and writes (R47), the total order of the
samples (R42), and the conservation of pulses (R43). -/

namespace Sys2Proof.Machine

open Sys2Proof.Safety

/-! ### The samples still to come play no part in an operation (R42, entry 3) -/

/-- An outcome with other samples still to come. -/
def withInputs (l : List InputSample) (o : Out) : Out := andThen o fun t => .next (setInputs l t)

@[simp] theorem withInputs_next (l : List InputSample) (t : State) : withInputs l (.next t) = .next (setInputs l t) := rfl

@[simp] theorem andThen_withInputs (l : List InputSample) (o : Out) (k : State → Out) :
    andThen (withInputs l o) k = andThen o fun t => k (setInputs l t) := andThen_assoc o _ k

theorem withInputs_andThen (l : List InputSample) (o : Out) (k : State → Out) :
    withInputs l (andThen o k) = andThen o fun t => withInputs l (k t) := andThen_assoc o k _

@[simp] theorem setInputs_setInputs (l l' : List InputSample) (s : State) :
    setInputs l (setInputs l' s) = setInputs l s := rfl

theorem observation_setInputs (now : Nat) (l : List InputSample) (s : State) :
    observation now (setInputs l s) = setInputs l (observation now s) := by
  rw [observation_eq, observation_eq]
  rfl

theorem buttonPhase_setInputs (pressed : Bool) (now : Nat) (l : List InputSample) (s : State) :
    buttonPhase pressed now (setInputs l s) = setInputs l (buttonPhase pressed now s) := by
  rw [buttonPhase_eq, buttonPhase_eq]
  rfl

theorem driftPhase_setInputs (l : List InputSample) (s : State) :
    driftPhase (setInputs l s) = setInputs l (driftPhase s) := by
  rw [driftPhase_eq, driftPhase_eq]
  rfl

theorem condition_setInputs (raw : Nat) (l : List InputSample) (s : State) :
    condition raw (setInputs l s) = setInputs l (condition raw s) := rfl

theorem motorCommand_setInputs (l : List InputSample) (s : State) :
    motorCommand (setInputs l s) = setInputs l (motorCommand s) := rfl

theorem exec_setInputs (i : Instr) (l : List InputSample) (s : State) :
    exec i (setInputs l s) = withInputs l (exec i s) := by
  cases i with
  | pulse | nop | rdrst | potcond | slew | reserved111 => rfl
  | observe now => simp [observation_setInputs]
  | cruise pressed now => simp [buttonPhase_setInputs, driftPhase_setInputs]
  | cycle pressed raw now =>
    simp [observation_setInputs, buttonPhase_setInputs, condition_setInputs, driftPhase_setInputs, motorCommand_setInputs]

/-! ### What an operation writes (R47) -/

theorem exec_completes (i : Instr) (s : State) : ∃ t, exec i s = .next t := by
  cases i <;> exact ⟨_, rfl⟩

section Writes

variable {i : Instr} {s t : State} (h : exec i s = .next t)
include h

/-- An operation that is blind to the samples still to come answers a state that still has those of `s`. -/
theorem exec_inputs : t.inputs = s.inputs := by
  have hblind : exec i s = withInputs s.inputs (exec i s) := exec_setInputs i s.inputs s
  rw [h, withInputs_next] at hblind
  calc t.inputs = (setInputs s.inputs t).inputs := congrArg State.inputs (Host.Outcome.next.inj hblind)
    _ = s.inputs := rfl

/-- A read-and-reset leaves no pulse in the counter, whatever its command does afterwards (R72). -/
theorem exec_count_of_reads (hi : readsCounter i = true) : t.count = 0 := by
  cases i with
  | rdrst =>
    cases h
    rfl
  | observe | cycle =>
    cases h
    simp [observation_eq, condition_eq, buttonPhase_eq, driftPhase_eq, motorCommand_eq]
  | pulse | nop | potcond | cruise | slew | reserved111 => cases hi

theorem exec_count_of_not_reads (hpulse : i ≠ .pulse) (hi : readsCounter i = false) : t.count = s.count := by
  cases i with
  | pulse => exact absurd rfl hpulse
  | rdrst | observe | cycle => cases hi
  | cruise =>
    cases h
    rw [driftPhase_eq, buttonPhase_eq]
  | nop | potcond | slew | reserved111 =>
    cases h
    rfl

theorem exec_delivery_of_not_reads (hi : readsCounter i = false) : t.rdVal = s.rdVal ∧ t.acc = s.acc := by
  cases i with
  | rdrst | observe | cycle => cases hi
  | cruise =>
    cases h
    rw [driftPhase_eq, buttonPhase_eq]
    exact ⟨rfl, rfl⟩
  | pulse | nop | potcond | slew | reserved111 =>
    cases h
    exact ⟨rfl, rfl⟩

theorem exec_estimator_of_not_observes (hi : observeNow i = none) :
    t.ts = s.ts ∧ t.spdNz = s.spdNz ∧ t.spdPeriod = s.spdPeriod ∧ t.fresh = s.fresh ∧ t.degen = s.degen := by
  cases i with
  | observe | cycle => cases hi
  | cruise =>
    cases h
    rw [driftPhase_eq, buttonPhase_eq]
    exact ⟨rfl, rfl, rfl, rfl, rfl⟩
  | pulse | nop | rdrst | potcond | slew | reserved111 =>
    cases h
    exact ⟨rfl, rfl, rfl, rfl, rfl⟩

theorem exec_setpoint_of_not_conditions (hpotcond : ∀ raw, i ≠ .potcond raw)
    (hcycle : ∀ pressed raw now, i ≠ .cycle pressed raw now) : t.spNum = s.spNum := by
  cases i with
  | potcond raw => exact absurd rfl (hpotcond raw)
  | cycle pressed raw now => exact absurd rfl (hcycle pressed raw now)
  | observe =>
    cases h
    rw [observation_eq]
  | cruise =>
    cases h
    rw [driftPhase_eq, buttonPhase_eq]
  | pulse | nop | rdrst | slew | reserved111 =>
    cases h
    rfl

theorem exec_cruise_of_not_updates (hi : updatesCruise i = false) :
    t.cruise = s.cruise ∧ t.btnPrev = s.btnPrev ∧ t.spPrevNum = s.spPrevNum ∧ t.dbValid = s.dbValid ∧ t.dbTime = s.dbTime ∧
      t.evtToggle = s.evtToggle ∧ t.evtDrift = s.evtDrift := by
  cases i with
  | cruise | cycle => cases hi
  | observe =>
    cases h
    rw [observation_eq]
    exact ⟨rfl, rfl, rfl, rfl, rfl, rfl, rfl⟩
  | pulse | nop | rdrst | potcond | slew | reserved111 =>
    cases h
    exact ⟨rfl, rfl, rfl, rfl, rfl, rfl, rfl⟩

theorem exec_duty_of_not_slews (hslew : i ≠ .slew) (hcycle : ∀ pressed raw now, i ≠ .cycle pressed raw now) :
    t.tgt = s.tgt ∧ t.cur = s.cur := by
  cases i with
  | slew => exact absurd rfl hslew
  | cycle pressed raw now => exact absurd rfl (hcycle pressed raw now)
  | observe =>
    cases h
    rw [observation_eq]
    exact ⟨rfl, rfl⟩
  | cruise =>
    cases h
    rw [driftPhase_eq, buttonPhase_eq]
    exact ⟨rfl, rfl⟩
  | pulse | nop | rdrst | potcond | reserved111 =>
    cases h
    exact ⟨rfl, rfl⟩

end Writes

/-- Settles O45: each row of the column "writes" is the frame of one group of registers. -/
theorem operationsWriteOnlyTheirRegisters : Obligations.OperationsWriteOnlyTheirRegisters := by
  intro i s
  obtain ⟨t, h⟩ := exec_completes i s
  exact ⟨t, h, exec_cfg h, exec_inputs h, exec_count_of_not_reads h, exec_delivery_of_not_reads h,
    exec_estimator_of_not_observes h, exec_setpoint_of_not_conditions h, exec_cruise_of_not_updates h,
    exec_duty_of_not_slews h⟩

/-! ### What an operation reads (R47) -/

/-- The speed of a fresh sample is that of the interval it ends, whatever the sample before it was (R84). -/
theorem observation_speed_of_fresh {now : Nat} {s : State} (h : (observation now s).fresh = true) :
    (observation now s).speed = (Frac.mk (60 * s.cfg.ticksPerSecond) (elapsed s.cfg now s.ts)).toRat := by
  obtain ⟨-, heq⟩ | ⟨-, -, heq⟩ | ⟨-, -, heq⟩ := observation_cases now s
  · simp [heq] at h
  · simp [heq] at h
  · simp [heq, State.speed, speedFrac]

section Reads

variable {s s' : State} (hcfg : s.cfg = s'.cfg)
include hcfg

theorem readAndDeliver_congr (hcount : s.count = s'.count) (hacc : s.acc = s'.acc) :
    (readAndDeliver s).count = (readAndDeliver s').count ∧ (readAndDeliver s).rdVal = (readAndDeliver s').rdVal ∧
      (readAndDeliver s).acc = (readAndDeliver s').acc := by
  simp [readAndDeliver_eq, hcfg, hcount, hacc]

theorem observation_congr {now : Nat} (hcount : s.count = s'.count) (hacc : s.acc = s'.acc) (hts : s.ts = s'.ts) :
    (observation now s).count = (observation now s').count ∧ (observation now s).rdVal = (observation now s').rdVal ∧
      (observation now s).acc = (observation now s').acc ∧ (observation now s).ts = (observation now s').ts ∧
      (observation now s).fresh = (observation now s').fresh ∧ (observation now s).degen = (observation now s').degen := by
  simp [observation_eq, hcfg, hcount, hacc, hts]

theorem observation_speed_congr {now : Nat} (hts : s.ts = s'.ts)
    (hfreshEq : (observation now s).fresh = (observation now s').fresh) (hfresh : (observation now s).fresh = true) :
    (observation now s).speed = (observation now s').speed := by
  rw [observation_speed_of_fresh hfresh, observation_speed_of_fresh (hfreshEq ▸ hfresh), hcfg, hts]

theorem condition_sp_congr (raw : Nat) : (condition raw s).sp = (condition raw s').sp := by
  simp [State.sp, setpointFrac, condition_eq, hcfg]

theorem quiet_congr {now : Nat} (hvalid : s.dbValid = s'.dbValid) (htime : s.dbTime = s'.dbTime) :
    quiet now s = quiet now s' := by
  simp [quiet, hcfg, hvalid, htime]

theorem toggles_congr {pressed : Bool} {now : Nat} (hbtn : s.btnPrev = s'.btnPrev) (hvalid : s.dbValid = s'.dbValid)
    (htime : s.dbTime = s'.dbTime) : toggles pressed now s = toggles pressed now s' := by
  simp [toggles, edgeSeen, hbtn, quiet_congr hcfg hvalid htime]

theorem driftDisengages_congr (hcruise : s.cruise = s'.cruise) (hsp : s.spNum = s'.spNum)
    (hspPrev : s.spPrevNum = s'.spPrevNum) : driftDisengages s = driftDisengages s' := by
  simp [driftDisengages, driftHolds, hcfg, hcruise, hsp, hspPrev]

theorem sourceSelect_congr (hcruise : s.cruise = s'.cruise) (hnz : s.spdNz = s'.spdNz)
    (hperiod : s.spdPeriod = s'.spdPeriod) (hsp : s.spNum = s'.spNum) : sourceSelect s = sourceSelect s' := by
  simp [sourceSelect, speedFrac, setpointFrac, hcfg, hcruise, hnz, hperiod, hsp]

theorem cruisePhases_congr {pressed : Bool} {now : Nat} (hcruise : s.cruise = s'.cruise) (hbtn : s.btnPrev = s'.btnPrev)
    (hsp : s.spNum = s'.spNum) (hspPrev : s.spPrevNum = s'.spPrevNum) (hvalid : s.dbValid = s'.dbValid)
    (htime : s.dbTime = s'.dbTime) :
    let t := driftPhase (buttonPhase pressed now s)
    let t' := driftPhase (buttonPhase pressed now s')
    t.cruise = t'.cruise ∧ t.btnPrev = t'.btnPrev ∧ t.spPrevNum = t'.spPrevNum ∧ t.dbValid = t'.dbValid ∧
      t.dbTime = t'.dbTime ∧ t.evtToggle = t'.evtToggle ∧ t.evtDrift = t'.evtDrift := by
  have hquiet : quiet now s = quiet now s' := quiet_congr hcfg hvalid htime
  have htoggles : toggles pressed now s = toggles pressed now s' := toggles_congr hcfg hbtn hvalid htime
  have hdrift : driftDisengages (buttonPhase pressed now s) = driftDisengages (buttonPhase pressed now s') := by
    apply driftDisengages_congr <;> simp [buttonPhase_eq, hcfg, hcruise, hsp, hspPrev, htoggles]
  simp only [driftPhase_eq, hdrift]
  simp [buttonPhase_eq, hcruise, hsp, htime, htoggles, hquiet]

theorem motorCommand_congr (hcruise : s.cruise = s'.cruise) (hnz : s.spdNz = s'.spdNz)
    (hperiod : s.spdPeriod = s'.spdPeriod) (hsp : s.spNum = s'.spNum) (hcur : s.cur = s'.cur) :
    (motorCommand s).tgt = (motorCommand s').tgt ∧ (motorCommand s).cur = (motorCommand s').cur := by
  simp [motorCommand_eq, hcfg, hcur, sourceSelect_congr hcfg hcruise hnz hperiod hsp]

end Reads

/-- Settles O46: each row of the column "reads" is the congruence of what one operation writes. -/
theorem operationsReadOnlyTheirRegisters : Obligations.OperationsReadOnlyTheirRegisters := by
  intro s s' hcfg
  refine ⟨fun hcount => ?pulse, fun hcount hacc => ?rdrst, fun now hcount hacc hts => ?observe, fun raw => ?potcond,
    fun pressed now hcruise hbtn hsp hspPrev hvalid htime => ?cruise, fun hcruise hnz hperiod hsp hcur => ?slew⟩
  case pulse => exact ⟨_, _, exec_pulse s, exec_pulse s', by simp [hcfg, hcount]⟩
  case rdrst => exact ⟨_, _, exec_rdrst s, exec_rdrst s', readAndDeliver_congr hcfg hcount hacc⟩
  case observe =>
    obtain ⟨hcount', hrdVal, hacc', hts', hfresh, hdegen⟩ := observation_congr hcfg (now := now) hcount hacc hts
    exact ⟨_, _, exec_observe now s, exec_observe now s', hcount', hrdVal, hacc', hts', hfresh, hdegen,
      observation_speed_congr hcfg hts hfresh⟩
  case potcond => exact ⟨_, _, exec_potcond raw s, exec_potcond raw s', condition_sp_congr hcfg raw⟩
  case cruise =>
    exact ⟨_, _, exec_cruise pressed now s, exec_cruise pressed now s',
      cruisePhases_congr hcfg hcruise hbtn hsp hspPrev hvalid htime⟩
  case slew => exact ⟨_, _, exec_slew s, exec_slew s', motorCommand_congr hcfg hcruise hnz hperiod hsp hcur⟩

/-! ### What an operation does a second time (R47) -/

theorem condition_condition (raw : Nat) (s : State) : condition raw (condition raw s) = condition raw s := rfl

theorem slewStep_self (c : Config) (t : Nat) : slewStep c t t = t := slewStep_lands (by omega) (by omega)

/-- A SLEW writes nothing that its target is computed from, so a SLEW that has landed stays where it is (R120, R122). -/
theorem motorCommand_of_landed {s : State} (h : (motorCommand s).cur = (motorCommand s).tgt) :
    motorCommand (motorCommand s) = motorCommand s := by
  have htgt : dutyTarget (motorCommand s).cfg (sourceSelect (motorCommand s)) = (motorCommand s).tgt := rfl
  have hcur : slewStep (motorCommand s).cfg (motorCommand s).cur (motorCommand s).tgt = (motorCommand s).cur := by
    rw [h, slewStep_self]
  rw [motorCommand_eq (motorCommand s), htgt, hcur]

/-- Settles O47: conditioning the same sample again writes the same setpoint, and a landed SLEW has nothing to move. -/
theorem idempotentOperations : Obligations.IdempotentOperations := by
  intro s
  refine ⟨by simp, fun raw => by simp [condition_condition], motorCommand s, rfl, fun h => ?_⟩
  rw [exec_slew, motorCommand_of_landed h]

/-! ### Samples without reset (R42, R50) -/

theorem clockWith_of_not_rst (run : Instr → State → Out) {p : InputSample} (hr : p.rst = false) (s : State) :
    clockWith run p s = andThen (commandPart run p s) (pulsePart run p) := by
  simp [clockWith, hr]

theorem commandPart_of_not_cmdValid (run : Instr → State → Out) {p : InputSample} (hv : p.cmdValid = false) (s : State) :
    commandPart run p s = .next s := by
  simp [commandPart, hv]

theorem commandPart_of_decode (run : Instr → State → Out) {p : InputSample} {i : Instr} {s : State}
    (hv : p.cmdValid = true) (hd : decode s.cfg (.command p.cmd) = .ok i) : commandPart run p s = run i s := by
  simp [commandPart, issue, hv, hd]

theorem pulsePart_of_not_pulse (run : Instr → State → Out) {p : InputSample} (hp : p.pulse = false) (s : State) :
    pulsePart run p s = .next s := by
  simp [pulsePart, hp]

theorem pulsePart_of_pulse (run : Instr → State → Out) {p : InputSample} (hp : p.pulse = true) (s : State) :
    pulsePart run p s = run .pulse s := by
  simp [pulsePart, hp]

theorem step_of_not_rst {s : State} {p : InputSample} {ps : List InputSample} (hvalid : s.cfg.Valid)
    (hi : s.inputs = p :: ps) (hr : p.rst = false) :
    step s = andThen (commandPart exec p (setInputs ps s)) (pulsePart exec p) := by
  rw [step, stepWith_cons exec hvalid hi, clockWith_of_not_rst exec hr]

/-- Settles O37: a sample without reset is its command part and then its pulse part, and each is the operation it raises. -/
theorem stepRunsTheDecodedOperation : Obligations.StepRunsTheDecodedOperation := by
  intro s p ps hvalid hi hr
  have hstep := step_of_not_rst hvalid hi hr
  refine ⟨fun i hv hd => ?_, fun hv hp => ?_⟩
  · rw [commandPart_of_decode exec hv (s := setInputs ps s) hd] at hstep
    refine ⟨fun hp => ?_, fun u hp hu => ?_⟩
    · obtain ⟨t, ht⟩ := exec_completes i (setInputs ps s)
      rw [hstep, ht, andThen_next, pulsePart_of_not_pulse exec hp]
      exact ht.symm
    · rw [hstep, show exec i (setInputs ps s) = .next u from hu, andThen_next, pulsePart_of_pulse exec hp]
  · rw [hstep, commandPart_of_not_cmdValid exec hv, andThen_next, pulsePart_of_pulse exec hp]
    rfl

/-! ### The samples still to come play no part in the sample taken (R42, entry 3) -/

theorem commandPart_setInputs (p : InputSample) (l : List InputSample) (s : State) :
    commandPart exec p (setInputs l s) = withInputs l (commandPart exec p s) := by
  unfold commandPart issue
  rw [setInputs_cfg]
  cases p.cmdValid with
  | false => rfl
  | true =>
    cases decode s.cfg (.command p.cmd) with
    | error e => rfl
    | ok i => exact exec_setInputs i l s

theorem pulsePart_setInputs (p : InputSample) (l : List InputSample) (s : State) :
    pulsePart exec p (setInputs l s) = withInputs l (pulsePart exec p s) := by
  unfold pulsePart
  cases p.pulse with
  | false => rfl
  | true => exact exec_setInputs .pulse l s

theorem clockEdge_setInputs (p : InputSample) (l : List InputSample) (s : State) :
    clockEdge p (setInputs l s) = withInputs l (clockEdge p s) := by
  unfold clockEdge clockWith
  cases p.rst with
  | true => rfl
  | false =>
    calc andThen (commandPart exec p (setInputs l s)) (pulsePart exec p)
      _ = andThen (commandPart exec p s) fun u => pulsePart exec p (setInputs l u) := by
        rw [commandPart_setInputs, andThen_withInputs]
      _ = andThen (commandPart exec p s) fun u => withInputs l (pulsePart exec p u) := by
        simp only [pulsePart_setInputs]
      _ = withInputs l (andThen (commandPart exec p s) (pulsePart exec p)) := (withInputs_andThen ..).symm

/-! ### Steps and runs (R42, R171) -/

theorem commandPart_cfg {p : InputSample} {s u : State} (h : commandPart exec p s = .next u) : u.cfg = s.cfg :=
  commandPart_keeps (P := fun v => v.cfg = s.cfg) (fun _ _ _ _ _ hv hi => (exec_cfg hi).trans hv) rfl h

theorem clockEdge_cfg {p : InputSample} {s t : State} (h : clockEdge p s = .next t) : t.cfg = s.cfg :=
  clockWith_keeps (P := fun u => u.cfg = s.cfg) (fun _ hu => hu) (fun _ _ _ _ _ hu hi => (exec_cfg hi).trans hu) rfl h

theorem runSamples_cons (p : InputSample) (ps : List InputSample) (s : State) :
    runSamples (p :: ps) s = andThen (clockEdge p s) (runSamples ps) := rfl

theorem step_of_cons {s : State} (hvalid : s.cfg.Valid) (p : InputSample) (l : List InputSample) :
    step (setInputs (p :: l) s) = withInputs l (clockEdge p s) := by
  rw [step, stepWith_cons exec (s := setInputs (p :: l) s) hvalid rfl, setInputs_setInputs]
  exact clockEdge_setInputs p l s

theorem core_run_of_next {M : Host.Core} {k : Nat} {s t : M.State} (h : M.step s = .next t) :
    M.run (k + 1) s = M.run k t := by
  simp only [Host.Core.run, h]

theorem core_run_of_fault {M : Host.Core} {k : Nat} {s : M.State} {r : M.Fault} (h : M.step s = .fault r) :
    M.run (k + 1) s = .fault r := by
  simp only [Host.Core.run, h]

theorem core_run_of_refused {M : Host.Core} {k : Nat} {s : M.State} {r : M.Refusal} (h : M.step s = .refused r) :
    M.run (k + 1) s = .refused r := by
  simp only [Host.Core.run, h]

/-- `k` steps of the core machine, at the model's own types. -/
def runSteps (k : Nat) (s : State) : Out := Host.Core.run core k s

theorem runSteps_succ (k : Nat) (s : State) : runSteps (k + 1) s = andThen (step s) (runSteps k) := by
  cases h : step s with
  | next t => exact core_run_of_next (M := core) h
  | fault r => exact core_run_of_fault (M := core) h
  | refused r => exact core_run_of_refused (M := core) h

/-- The pending samples before `rest` are run one to a step; what a sample does is the same whichever samples come after it. -/
theorem runSteps_pending (ps rest : List InputSample) {s : State} (hvalid : s.cfg.Valid) :
    runSteps ps.length (setInputs (ps ++ rest) s) = runSamples ps (setInputs rest s) := by
  induction ps generalizing s with
  | nil => rfl
  | cons p ps ih =>
    rw [List.length_cons, runSteps_succ, List.cons_append, step_of_cons hvalid, runSamples_cons, clockEdge_setInputs,
      andThen_withInputs, andThen_withInputs]
    cases h : clockEdge p s with
    | next t => exact ih (clockEdge_cfg h ▸ hvalid)
    | fault | refused => rfl

/-- Settles O48, by induction on the samples. -/
theorem stepsRunThePendingSamples : Obligations.StepsRunThePendingSamples :=
  fun ps rest _ hvalid => runSteps_pending ps rest hvalid

end Sys2Proof.Machine

namespace Sys2Proof.Safety

open Sys2Proof.Machine

/-! ### Conservation of pulses in one sample (R43, R71, R72, R74) -/

theorem commandOf_ne_pulse (c : Config) (w : Nat) : commandOf c w ≠ .pulse := by
  unfold commandOf
  split <;> simp

/-- PULSE is no command: it arrives on a port of its own (R59). -/
theorem decode_command_ne_pulse {c : Config} {w : Nat} {i : Instr} (h : decode c (.command w) = .ok i) : i ≠ .pulse := by
  by_cases hw : w < 2 ^ cmdWidth c
  · rw [decode, if_pos hw] at h
    cases h
    exact commandOf_ne_pulse c w
  · rw [decode, if_neg hw] at h
    cases h

theorem issuedCommand_of_not_cmdValid (c : Config) {p : InputSample} (hv : p.cmdValid = false) :
    issuedCommand c p = none := by
  simp [issuedCommand, hv]

theorem issuedCommand_of_decode {c : Config} {p : InputSample} {i : Instr} (hr : p.rst = false) (hv : p.cmdValid = true)
    (hd : decode c (.command p.cmd) = .ok i) : issuedCommand c p = some i := by
  simp [issuedCommand, hr, hv, hd]

theorem bumpCount_count_of_ne_countMax {s : State} (hlt : s.count < 2 ^ s.cfg.cntW) (hne : s.count ≠ countMax s.cfg) :
    (bumpCount s).count = s.count + 1 := by
  unfold countMax at hne
  exact Nat.mod_eq_of_lt (by omega)

/-- A command moves pulses from the counter to the consumer and loses none (R41, R72). -/
theorem commandPart_conserves {p : InputSample} {s u : State} (hr : p.rst = false) (h : commandPart exec p s = .next u) :
    u.count + valueRead p s = s.count := by
  obtain ⟨hv, rfl⟩ | ⟨hv, i, hd, hi⟩ := commandPart_cases h
  · simp [valueRead, issuedCommand_of_not_cmdValid _ hv]
  · cases hreads : readsCounter i with
    | true => simp [valueRead, issuedCommand_of_decode hr hv hd, hreads, exec_count_of_reads hi hreads]
    | false =>
      simp [valueRead, issuedCommand_of_decode hr hv hd, hreads,
        exec_count_of_not_reads hi (decode_command_ne_pulse hd) hreads]

/-- Without a wrap a PULSE is counted (R71, R75). -/
theorem pulsePart_counts {p : InputSample} {u t : State} (hlt : u.count < 2 ^ u.cfg.cntW)
    (hne : p.pulse = true → u.count ≠ countMax u.cfg) (h : pulsePart exec p u = .next t) :
    t.count = u.count + bitOf p.pulse := by
  obtain ⟨hp, rfl⟩ | ⟨hp, hexec⟩ := pulsePart_cases h
  · simp [hp, bitOf]
  · cases hexec
    rw [bumpCount_count_of_ne_countMax hlt (hne hp), hp]
    rfl

/-- The ledger of one sample: what it leaves in `count` and what it returns are what it found and what it counted. -/
theorem clockEdge_conserves {p : InputSample} {s t : State} (hlt : s.count < 2 ^ s.cfg.cntW) (hr : p.rst = false)
    (hne : p.pulse = true → (stateAfter (commandPart exec p s) s).count ≠ countMax s.cfg)
    (h : clockEdge p s = .next t) : t.count + valueRead p s = s.count + bitOf p.pulse := by
  obtain ⟨hr', -⟩ | ⟨-, u, hu, ht⟩ := clockWith_cases h
  · simp [hr] at hr'
  · have hcfg : u.cfg = s.cfg := commandPart_cfg hu
    have hcommand : u.count + valueRead p s = s.count := commandPart_conserves hr hu
    rw [hu] at hne
    have hpulse : t.count = u.count + bitOf p.pulse :=
      pulsePart_counts (by rw [hcfg]; omega) (fun hp => hcfg ▸ hne hp) ht
    omega

/-! ### Conservation of pulses in a run (R43) -/

theorem clockEdge_keeps_stateInv {p : InputSample} {s t : State} (hs : StateInv s) (h : clockEdge p s = .next t) :
    StateInv t :=
  clockWith_keeps (fun _ hu => stateInv_resetRegisters hu.valid)
    (fun _ _ _ _ hd hu hi => exec_keeps_stateInv hu (decode_wellFormed hd) hi) hs h

/-- Ledgers that balance before a run balance after it: a sample keeps the balance, and a reset sets every side of it to 0 (U13). -/
theorem runSamples_conserves {ps : List InputSample} {s t : State} {pulses reads : Nat} (hs : StateInv s)
    (hrun : runSamples ps s = .next t) (hwraps : NeverWraps ps s) (hbalance : pulses = s.count + reads) :
    pulsesSince pulses ps = t.count + readsSince reads ps s := by
  induction ps generalizing s pulses reads with
  | nil =>
    cases hrun
    exact hbalance
  | cons p ps ih =>
    obtain ⟨u, hu, ht⟩ := andThen_eq_next.mp (runSamples_cons p ps s ▸ hrun)
    obtain ⟨hp, hps⟩ := hwraps
    rw [hu] at hps
    rw [pulsesSince, readsSince, hu]
    refine ih (s := u) (clockEdge_keeps_stateInv hs hu) ht hps ?_
    cases hr : p.rst with
    | true =>
      cases (clockWith_of_rst exec hr s).symm.trans hu
      rfl
    | false =>
      have hsample := clockEdge_conserves hs.width.count_lt hr (hp hr) hu
      simp only [Bool.false_eq_true, if_false]
      omega

/-- Settles O6, by induction on the samples from the state after reset, in which all three ledgers are 0. -/
theorem pulsesAreConserved : Obligations.PulsesAreConserved :=
  fun _ _ _ hvalid hrun hwraps => runSamples_conserves (stateInv_resetRegisters hvalid) hrun hwraps rfl

end Sys2Proof.Safety

/-! Proofs about the encoding (30_encoding.md): the round trip of the encoder, what of a command word decodes, the encodings of the
statement table, the words of the decoding table, and the widths of the output ports. -/

namespace Sys2Proof

/-! ### The command as a function of the fields of its word (R51 to R53) -/

/-- The command that a value of `op` selects from the values of the other fields: `commandOf` with the fields set free. -/
def commandWith (op : Fin 8) (pressed : Bool) (raw now : Nat) : Instr :=
  match op with
  | 0 => .nop
  | 1 => .rdrst
  | 2 => .observe now
  | 3 => .potcond raw
  | 4 => .cruise pressed now
  | 5 => .slew
  | 6 => .cycle pressed raw now
  | 7 => .reserved111

theorem commandOf_eq_commandWith (c : Config) (w : Nat) :
    commandOf c w = commandWith (fieldOp c w) (fieldPressed c w) (fieldRaw c w) (fieldNow c w) := rfl

theorem decode_command_of_lt {c : Config} {w : Nat} (hw : w < 2 ^ cmdWidth c) :
    decode c (.command w) = .ok (commandWith (fieldOp c w) (fieldPressed c w) (fieldRaw c w) (fieldNow c w)) := by
  rw [decode, if_pos hw, commandOf_eq_commandWith]

theorem decode_pulsePort_eq_ok {c : Config} {v : Nat} {i : Instr} (h : decode c (.pulsePort v) = .ok i) :
    v = 1 ∧ i = .pulse := by
  by_cases hv : v = 1
  · rw [decode, if_pos hv] at h
    cases h
    exact ⟨hv, rfl⟩
  · rw [decode, if_neg hv] at h
    cases h

/-! ### Decoding what was encoded (R51 to R53) -/

theorem decode_packCommand {c : Config} {op : Nat} {pressed : Bool} {raw now : Nat} (hop : op < 8)
    (hraw : raw < 2 ^ c.adcW) (hnow : now < 2 ^ c.timeW) :
    decode c (.command (packCommand c op pressed raw now)) = .ok (commandWith (Fin.ofNat 8 op) pressed raw now) := by
  rw [decode_command_of_lt (packCommand_lt hop hraw hnow), fieldOp_packCommand hraw hnow, fieldPressed_packCommand hraw hnow,
    fieldRaw_packCommand hraw hnow, fieldNow_packCommand hnow]

/-- Settles O32: each operation is packed with its own `op` and decoded from the fields it was packed from. -/
theorem decodeOfEncodeIsTheOperation : Obligations.DecodeOfEncodeIsTheOperation := by
  intro c i hwf
  have hzero (n : Nat) : 0 < 2 ^ n := Nat.two_pow_pos n
  cases i with
  | pulse => rfl
  | nop | rdrst | slew | reserved111 => exact decode_packCommand (by decide) (hzero _) (hzero _)
  | observe now | cruise pressed now => exact decode_packCommand (by decide) (hzero _) (of_decide_eq_true hwf)
  | potcond raw => exact decode_packCommand (by decide) (of_decide_eq_true hwf) (hzero _)
  | cycle pressed raw now =>
    obtain ⟨hraw, hnow⟩ := Bool.and_eq_true_iff.mp hwf
    exact decode_packCommand (by decide) (of_decide_eq_true hraw) (of_decide_eq_true hnow)

/-! ### The fields tile the word (R51) -/

/-- `raw` and `now` are the digits of the word below its top six bits (R51). -/
theorem word_eq_top_raw_now (c : Config) (w : Nat) :
    w = w / 2 ^ (c.adcW + c.timeW) * 2 ^ (c.adcW + c.timeW) + fieldRaw c w * 2 ^ c.timeW + fieldNow c w := by
  have hlow : w % 2 ^ (c.adcW + c.timeW) = fieldNow c w + 2 ^ c.timeW * fieldRaw c w := by
    rw [Nat.add_comm, pow_add, Nat.mod_mul, fieldNow, fieldRaw]
  have hsplit := Nat.div_add_mod' w (2 ^ (c.adcW + c.timeW))
  rw [hlow, Nat.mul_comm (2 ^ c.timeW)] at hsplit
  omega

theorem word_div_top (c : Config) (w k : Nat) :
    w / 2 ^ (k + c.adcW + c.timeW) = w / 2 ^ (c.adcW + c.timeW) / 2 ^ k := by
  rw [Nat.div_div_eq_div_mul, ← pow_add, Nat.add_assoc, Nat.add_comm k]

theorem bitOf_decide_mod_two (n : Nat) : bitOf (decide (n % 2 = 1)) = n % 2 := by
  obtain h | h := Nat.mod_two_eq_zero_or_one n <;> rw [h] <;> rfl

theorem six_bits_eq {n : Nat} (h : n < 64) : n = n / 8 % 8 * 8 + n / 4 % 2 * 4 + n % 4 := by omega

/-- The top six bits of a word that fits the port are `op`, `pressed` and the two reserved bits. -/
theorem word_top_eq {c : Config} {w : Nat} (hw : w < 2 ^ cmdWidth c) :
    w / 2 ^ (c.adcW + c.timeW) = (fieldOp c w).val * 8 + bitOf (fieldPressed c w) * 4 + fieldReserved c w := by
  have htop : w / 2 ^ (c.adcW + c.timeW) < 64 := by
    rw [cmdWidth, Nat.add_assoc, pow_add] at hw
    exact Nat.div_lt_of_lt_mul (by rwa [Nat.mul_comm] at hw)
  have hop : (fieldOp c w).val = w / 2 ^ (c.adcW + c.timeW) / 8 % 8 := by
    rw [fieldOp, word_div_top, Fin.val_ofNat]
    rfl
  have hpressed : bitOf (fieldPressed c w) = w / 2 ^ (c.adcW + c.timeW) / 4 % 2 := by
    rw [fieldPressed, word_div_top, bitOf_decide_mod_two]
    rfl
  rw [hop, hpressed, fieldReserved]
  exact six_bits_eq htop

theorem word_eq_fields {c : Config} {w : Nat} (hw : w < 2 ^ cmdWidth c) :
    w = (fieldOp c w).val * 2 ^ (3 + c.adcW + c.timeW) + bitOf (fieldPressed c w) * 2 ^ (2 + c.adcW + c.timeW) +
      fieldReserved c w * 2 ^ (c.adcW + c.timeW) + fieldRaw c w * 2 ^ c.timeW + fieldNow c w := by
  have hword := word_eq_top_raw_now c w
  rw [word_top_eq hw] at hword
  rw [Nat.add_assoc 3, Nat.add_assoc 2, pow_add 2 3, pow_add 2 2]
  calc w = _ := hword
    _ = _ := by ring

/-! ### What of a word decodes (R52, R53, R55) -/

/-- A command is the same from fields that agree where it uses them. -/
theorem commandWith_congr {op : Fin 8} {pressed pressed' : Bool} {raw raw' now now' : Nat}
    (hpressed : op = 4 ∨ op = 6 → pressed' = pressed) (hraw : op = 3 ∨ op = 6 → raw' = raw)
    (hnow : op = 2 ∨ op = 4 ∨ op = 6 → now' = now) : commandWith op pressed' raw' now' = commandWith op pressed raw now := by
  match op with
  | 0 | 1 | 5 | 7 => rfl
  | 2 => rw [hnow (by decide)]; rfl
  | 3 => rw [hraw (by decide)]; rfl
  | 4 => rw [hpressed (by decide), hnow (by decide)]; rfl
  | 6 => rw [hpressed (by decide), hraw (by decide), hnow (by decide)]

theorem commandWith_eq_reserved111_iff (op : Fin 8) (pressed : Bool) (raw now : Nat) :
    commandWith op pressed raw now = .reserved111 ↔ op = 7 := by
  unfold commandWith
  split <;> simp

/-- Settles O33: the fields at their places add up to the word, and the decoder reads it through `commandWith` only. -/
theorem onlyOpAndUsedFieldsDecode : Obligations.OnlyOpAndUsedFieldsDecode := by
  intro c w hw
  refine ⟨word_eq_fields hw, ⟨_, decode_command_of_lt hw, commandOf_wellFormed c w⟩, ?_⟩
  intro w' hw' hop hpressed hraw hnow
  rw [decode_command_of_lt hw', decode_command_of_lt hw, hop, commandWith_congr hpressed hraw hnow]

/-! ### The words of the tables (R61; 95_test_vectors.md section 2.7) -/

theorem packCommand_default (op : Nat) (pressed : Bool) (raw now : Nat) :
    packCommand Config.default op pressed raw now = op * 2 ^ 45 + bitOf pressed * 2 ^ 44 + raw * 2 ^ 32 + now := rfl

/-- Settles O34: for the defaults `op` stands at bit 45, `pressed` at bit 44, `raw` at bit 32 and `now` at bit 0. -/
theorem statementsHaveTheirEncodings : Obligations.StatementsHaveTheirEncodings := by
  unfold Obligations.StatementsHaveTheirEncodings
  simp [encode, packCommand_default, bitOf]

/-- Settles O35: each word of the table is evaluated. -/
theorem decodingTableWordsDecode : Obligations.DecodingTableWordsDecode :=
  ⟨rfl, rfl, rfl, rfl, rfl, rfl, rfl, rfl, rfl, rfl, rfl⟩

end Sys2Proof

namespace Sys2Proof.Machine

/-! ### The reserved code (R54, R145) -/

/-- Settles O31: the core's arm for the reserved code keeps the state, the checked one refuses, and only `op = 111` selects it. -/
theorem reservedCodeChangesNothingAndIsFlagged : Obligations.ReservedCodeChangesNothingAndIsFlagged := by
  refine ⟨fun s => ⟨exec_reserved111 s, rfl⟩, fun c w hw => ?_⟩
  rw [decode_command_of_lt hw, Except.ok.injEq, commandWith_eq_reserved111_iff]

/-! ### An offered table word is the next operation (entry 10) -/

theorem step_offered {s : State} {pw : PortWord} {i : Instr} (hvalid : s.cfg.Valid) (hd : decode s.cfg pw = .ok i) :
    step (setInputs (sampleOf pw :: s.inputs) s) = exec i s := by
  obtain ⟨hcommand, hpulse⟩ :=
    stepRunsTheDecodedOperation (setInputs (sampleOf pw :: s.inputs) s) (sampleOf pw) s.inputs hvalid rfl (by cases pw <;> rfl)
  cases pw with
  | pulsePort v =>
    obtain ⟨rfl, rfl⟩ := decode_pulsePort_eq_ok hd
    exact hpulse rfl rfl
  | command w => exact (hcommand i rfl hd).1 rfl

theorem decode_of_decodeTableWord {nbits w : Nat} {i : Instr} (h : decodeTableWord nbits w = some i) :
    decode Config.default (tableWord nbits w) = .ok i := by
  unfold decodeTableWord at h
  split at h
  · cases h
    assumption
  · cases h

/-- Settles O38: the offered sample raises the one operation that the table's word decodes to, and the defaults are valid. -/
theorem stepRunsTheOfferedTableWord : Obligations.StepRunsTheOfferedTableWord := by
  intro s nbits w i hcfg h
  have hvalid : s.cfg.Valid := hcfg ▸ (by decide : Config.default.Valid)
  exact step_offered hvalid (hcfg ▸ decode_of_decodeTableWord h)

end Sys2Proof.Machine

namespace Sys2Proof.Safety

open Sys2Proof.Machine

/-! ### The widths of the output ports (R50, R60) -/

theorem cruiseBit_lt (x : CruiseState) : cruiseBit x < 2 := by cases x <;> decide

/-- The ports with the width `ceil(log2(m + 1))` hold every number up to `m`. -/
theorem lt_two_pow_clog_succ {n m : Nat} (h : n ≤ m) : n < 2 ^ Nat.clog 2 (m + 1) :=
  Nat.lt_of_lt_of_le (Nat.lt_succ_of_le h) (Nat.le_pow_clog Nat.one_lt_two _)

theorem setpointWidth_default : setpointWidth Config.default = 15 := by
  norm_num [setpointWidth, Config.default]

theorem dutyWidth_default : dutyWidth Config.default = 8 := by
  norm_num [dutyWidth, Config.default]

/-- Settles O44: a port shows its register, which the invariant bounds by what its port can hold. -/
theorem outputsFitTheirPorts : Obligations.OutputsFitTheirPorts := by
  refine ⟨fun s hs => ?_, rfl, setpointWidth_default, dutyWidth_default⟩
  obtain ⟨hsp, -⟩ := hs.sp_range
  exact ⟨hs.width.rdVal_lt, hs.width.spdPeriod_lt, lt_two_pow_clog_succ hsp, cruiseBit_lt s.cruise,
    lt_two_pow_clog_succ hs.cur_le, lt_two_pow_clog_succ hs.tgt_le, rfl⟩

end Sys2Proof.Safety

/-! Proofs about the pulse counter unit (40_pulse_counter.md): what PULSE and a read-and-reset do to the counter (R71 to R73), the
two in one clock period and in either order (R74), and the ledger of the accumulator. -/

namespace Sys2Proof.Machine

open Sys2Proof.Safety

/-! ### PULSE (R71, R75) -/

theorem decode_pulsePort_iff (c : Config) (v : Nat) : decode c (.pulsePort v) = .ok .pulse ↔ v = 1 :=
  ⟨fun h => (decode_pulsePort_eq_ok h).1, fun h => if_pos h⟩

/-- Settles O1: PULSE is the atomic increment, and the decoder reads it from the value 1 of its port only. -/
theorem pulseIncrementsCountModuloWidth : Obligations.PulseIncrementsCountModuloWidth :=
  ⟨exec_pulse, decode_pulsePort_iff⟩

theorem bumpCount_eq (s : State) : bumpCount s = { s with count := (s.count + 1) % 2 ^ s.cfg.cntW } := rfl

theorem execSeq_replicate_pulse (n : Nat) {s : State} (hlt : s.count < 2 ^ s.cfg.cntW) :
    execSeq (List.replicate n .pulse) s = .next { s with count := (s.count + n) % 2 ^ s.cfg.cntW } := by
  induction n generalizing s with
  | zero => simp [Nat.mod_eq_of_lt hlt]
  | succ n ih =>
    have hcount : ((s.count + 1) % 2 ^ s.cfg.cntW + n) % 2 ^ s.cfg.cntW = (s.count + (n + 1)) % 2 ^ s.cfg.cntW := by
      rw [Nat.mod_add_mod, Nat.add_assoc, Nat.add_comm 1]
    calc execSeq (List.replicate (n + 1) .pulse) s
      _ = execSeq (List.replicate n .pulse) (bumpCount s) := rfl
      _ = .next { s with count := ((s.count + 1) % 2 ^ s.cfg.cntW + n) % 2 ^ s.cfg.cntW } :=
        ih (s := bumpCount s) (Nat.mod_lt _ (Nat.two_pow_pos _))
      _ = .next { s with count := (s.count + (n + 1)) % 2 ^ s.cfg.cntW } := by rw [hcount]

theorem bumpCount_of_count_eq_countMax {s : State} (h : s.count = countMax s.cfg) : bumpCount s = { s with count := 0 } := by
  have hwrap : s.count + 1 = 2 ^ s.cfg.cntW := by rw [h, countMax, Nat.sub_add_cancel Nat.one_le_two_pow]
  rw [bumpCount_eq, hwrap, Nat.mod_self]

/-- Settles O3, by induction on the number of PULSE events; at the top the increment reaches `2^CNT_W`. -/
theorem pulsesWithoutAReadWrapAndAreFlagged : Obligations.PulsesWithoutAReadWrapAndAreFlagged := by
  refine ⟨fun n _ hlt => execSeq_replicate_pulse n hlt, fun s htop => ⟨?_, if_pos htop⟩⟩
  rw [exec_pulse, bumpCount_of_count_eq_countMax htop]

/-! ### RDRST (R72, R73) -/

/-- Reading an empty counter delivers 0 and leaves an accumulator that fits its width. -/
theorem readAndDeliver_of_count_eq_zero {s : State} (hcount : s.count = 0) (hacc : s.acc ≤ 2 ^ s.cfg.cntW - 1) :
    readAndDeliver s = { s with rdVal := 0 } := by
  rw [readAndDeliver_eq, hcount, Nat.add_zero, sat_eq_self hacc, ← hcount]

/-- Settles O2: the first RDRST empties the counter and saturates the accumulator, which is what the second one finds. -/
theorem rdrstReadsClearsAndDelivers : Obligations.RdrstReadsClearsAndDelivers := by
  intro s
  have hsecond : readAndDeliver (readAndDeliver s) = { readAndDeliver s with rdVal := 0 } :=
    readAndDeliver_of_count_eq_zero rfl (sat_le _ _)
  exact ⟨readAndDeliver s, _, exec_rdrst s, readAndDeliver_eq s, exec_rdrst _, hsecond⟩

/-! ### What a read-and-reset delivers (R72, R73, R81) -/

section Delivers

variable {i : Instr} {s t : State} (h : exec i s = .next t)
include h

theorem exec_rdVal_of_reads (hi : readsCounter i = true) : t.rdVal = s.count := by
  cases i with
  | rdrst =>
    cases h
    rfl
  | observe | cycle =>
    cases h
    simp [observation_eq, condition_eq, buttonPhase_eq, driftPhase_eq, motorCommand_eq]
  | pulse | nop | potcond | cruise | slew | reserved111 => cases hi

theorem exec_acc_of_observes {now : Nat} (hi : observeNow i = some now) : t.acc = (observation now s).acc := by
  cases i with
  | observe =>
    cases h
    cases hi
    rfl
  | cycle =>
    cases h
    cases hi
    simp [condition_eq, buttonPhase_eq, driftPhase_eq, motorCommand_eq]
  | pulse | nop | rdrst | potcond | cruise | slew | reserved111 => cases hi

end Delivers

/-! ### The two orders of a PULSE and a command (R74, R147, U10) -/

theorem buttonPhase_bumpCount (pressed : Bool) (now : Nat) (s : State) :
    buttonPhase pressed now (bumpCount s) = bumpCount (buttonPhase pressed now s) := by
  rw [buttonPhase_eq, buttonPhase_eq]
  rfl

theorem driftPhase_bumpCount (s : State) : driftPhase (bumpCount s) = bumpCount (driftPhase s) := by
  rw [driftPhase_eq, driftPhase_eq]
  rfl

theorem exec_bumpCount_of_not_reads {i : Instr} (hi : readsCounter i = false) (s : State) :
    exec i (bumpCount s) = andThen (exec i s) (exec .pulse) := by
  cases i with
  | pulse | nop | potcond | slew | reserved111 => rfl
  | cruise pressed now => simp [buttonPhase_bumpCount, driftPhase_bumpCount]
  | rdrst | observe | cycle => cases hi

theorem execSeq_pair (i j : Instr) (s : State) : execSeq [i, j] s = andThen (exec i s) (exec j) := by
  obtain ⟨u, hu⟩ := exec_completes i s
  obtain ⟨t, ht⟩ := exec_completes j u
  simp [hu, ht]

/-- Settles O5: a command that does not read is blind to the increment; one that reads returns what it finds and leaves 0. -/
theorem bothOrdersOfPulseAndCommandKeepTheTotal : Obligations.BothOrdersOfPulseAndCommandKeepTheTotal := by
  refine ⟨fun i s hi => ?_, fun i s hi hlt => ?_⟩
  · rw [execSeq_pair, execSeq_pair, exec_pulse, andThen_next, exec_bumpCount_of_not_reads hi]
  · obtain ⟨u, hu⟩ := exec_completes i s
    obtain ⟨b, hb⟩ := exec_completes i (bumpCount s)
    have hcleared : u.count = 0 := exec_count_of_reads hu hi
    have hleft : (bumpCount u).count = 1 := by
      rw [bumpCount_count, hcleared, exec_cfg hu]
      exact Nat.mod_eq_of_lt (by omega)
    have hcounted : (bumpCount s).count = s.count + 1 :=
      bumpCount_count_of_ne_countMax (by omega) (Nat.ne_of_lt hlt)
    have hread : u.rdVal = s.count := exec_rdVal_of_reads hu hi
    exact ⟨bumpCount u, b, by rw [execSeq_pair, hu, andThen_next, exec_pulse],
      by rw [execSeq_pair, exec_pulse, andThen_next, hb], hread, hleft, (exec_rdVal_of_reads hb hi).trans hcounted,
      exec_count_of_reads hb hi⟩

end Sys2Proof.Machine

namespace Sys2Proof.Safety

open Sys2Proof.Machine

/-! ### A PULSE and a command in one clock period (R74) -/

theorem commandPart_completes {p : InputSample} {s : State} (hfits : SampleFits s.cfg p) :
    ∃ u, commandPart exec p s = .next u := by
  cases hv : p.cmdValid with
  | false => exact ⟨s, commandPart_of_not_cmdValid exec hv s⟩
  | true =>
    rw [commandPart_of_decode exec hv (decode_command_of_lt hfits)]
    exact exec_completes _ s

theorem pulsePart_completes (p : InputSample) (u : State) : ∃ t, pulsePart exec p u = .next t := by
  cases hp : p.pulse with
  | false => exact ⟨u, pulsePart_of_not_pulse exec hp u⟩
  | true => exact ⟨bumpCount u, pulsePart_of_pulse exec hp u⟩

theorem valueRead_eq (p : InputSample) (s : State) :
    valueRead p s = if ((issuedCommand s.cfg p).map readsCounter).getD false then s.count else 0 := by
  unfold valueRead
  cases issuedCommand s.cfg p <;> rfl

theorem commandPart_count {p : InputSample} {s u : State} (hr : p.rst = false) (h : commandPart exec p s = .next u) :
    u.count = if ((issuedCommand s.cfg p).map readsCounter).getD false then 0 else s.count := by
  have hledger : u.count + valueRead p s = s.count := commandPart_conserves hr h
  rw [valueRead_eq] at hledger
  split at hledger
  · rw [if_pos ‹_›]
    omega
  · rw [if_neg ‹_›]
    omega

theorem commandPart_rdVal {p : InputSample} {s u : State} (hr : p.rst = false) (h : commandPart exec p s = .next u)
    (hreads : ((issuedCommand s.cfg p).map readsCounter).getD false = true) : u.rdVal = s.count := by
  obtain ⟨hv, -⟩ | ⟨hv, i, hd, hi⟩ := commandPart_cases h
  · simp [issuedCommand_of_not_cmdValid _ hv] at hreads
  · rw [issuedCommand_of_decode hr hv hd] at hreads
    exact exec_rdVal_of_reads hi hreads

/-- A PULSE writes `count` only, and its wrap makes the sum one modulo `2^CNT_W` (R71). -/
theorem pulsePart_spec {p : InputSample} {u t : State} (hlt : u.count < 2 ^ u.cfg.cntW)
    (h : pulsePart exec p u = .next t) :
    t.count = (u.count + bitOf p.pulse) % 2 ^ u.cfg.cntW ∧ t.rdVal = u.rdVal := by
  obtain ⟨hp, rfl⟩ | ⟨hp, hexec⟩ := pulsePart_cases h
  · simp [hp, bitOf, Nat.mod_eq_of_lt hlt]
  · cases hexec
    simp [hp, bitOf]

/-- The next-state function of `count` and the value returned, for a sample without reset (R74). -/
theorem clockEdge_reads_then_counts {p : InputSample} {s : State} (hlt : s.count < 2 ^ s.cfg.cntW) (hr : p.rst = false)
    (hfits : SampleFits s.cfg p) :
    ∃ t, clockEdge p s = .next t ∧
      t.count =
        ((if ((issuedCommand s.cfg p).map readsCounter).getD false then 0 else s.count) + bitOf p.pulse) % 2 ^ s.cfg.cntW ∧
      (((issuedCommand s.cfg p).map readsCounter).getD false = true → t.rdVal = s.count) := by
  obtain ⟨u, hu⟩ := commandPart_completes hfits
  obtain ⟨t, ht⟩ := pulsePart_completes p u
  have hcfg : u.cfg = s.cfg := commandPart_cfg hu
  have hledger : u.count + valueRead p s = s.count := commandPart_conserves hr hu
  obtain ⟨hcount, hrdVal⟩ := pulsePart_spec (by rw [hcfg]; omega) ht
  refine ⟨t, ?_, ?_, fun hreads => hrdVal.trans (commandPart_rdVal hr hu hreads)⟩
  · rw [clockEdge, clockWith_of_not_rst exec hr, hu, andThen_next, ht]
  · rw [hcount, hcfg, commandPart_count hr hu]

/-- Settles O4: the command part reads or keeps `count`, and the pulse part adds to what it left. -/
theorem coincidentPulseSurvivesTheRead : Obligations.CoincidentPulseSurvivesTheRead := by
  intro s p ps hvalid hlt hi hr hfits
  obtain ⟨t, ht, hnext⟩ := clockEdge_reads_then_counts (s := setInputs ps s) hlt hr hfits
  exact ⟨t, (stepWith_cons exec hvalid hi).trans ht, hnext⟩

/-! ### The ledger of the accumulator in one sample (R73, R81, R84) -/

/-- Without saturation, an observation either keeps all pulses in `acc` or uses all of them up (R82, R84, R85). -/
theorem observation_acc_add_cleared (now : Nat) {s : State} (hsat : s.acc + s.count ≤ countMax s.cfg) :
    (observation now s).acc +
      (if s.cfg.ppr ≤ s.acc + s.count ∧ s.cfg.minElapsed ≤ elapsed s.cfg now s.ts then s.acc + s.count else 0) =
        s.acc + s.count := by
  have hself : sat s.cfg.cntW (s.acc + s.count) = s.acc + s.count := sat_eq_self hsat
  rw [observation_eq, hself]
  split <;> simp

theorem clearedBy_of_observes {p : InputSample} {s : State} {i : Instr} {now : Nat}
    (hissued : issuedCommand s.cfg p = some i) (hnow : observeNow i = some now) :
    clearedBy p s =
      if s.cfg.ppr ≤ s.acc + s.count ∧ s.cfg.minElapsed ≤ elapsed s.cfg now s.ts then s.acc + s.count else 0 := by
  simp [clearedBy, hissued, hnow]

theorem clearedBy_of_not_observes {p : InputSample} {s : State} {i : Instr} (hissued : issuedCommand s.cfg p = some i)
    (hnow : observeNow i = none) : clearedBy p s = 0 := by
  simp [clearedBy, hissued, hnow]

/-- An issued command moves the pulses it reads into `acc`, less those that a speed sample uses up. -/
theorem exec_accumulates {p : InputSample} {s u : State} {i : Instr} (hissued : issuedCommand s.cfg p = some i)
    (hsat : readsCounter i = true → s.acc + s.count ≤ countMax s.cfg) (h : exec i s = .next u) :
    u.acc + clearedBy p s = s.acc + valueRead p s := by
  have hvalue : valueRead p s = if readsCounter i then s.count else 0 := by simp [valueRead, hissued]
  cases i with
  | observe now | cycle _ _ now =>
    rw [exec_acc_of_observes h rfl, clearedBy_of_observes hissued rfl, hvalue]
    exact observation_acc_add_cleared now (hsat rfl)
  | rdrst =>
    cases h
    rw [clearedBy_of_not_observes hissued rfl, hvalue]
    exact sat_eq_self (hsat rfl)
  | pulse | nop | potcond | cruise | slew | reserved111 =>
    obtain ⟨-, hacc⟩ := exec_delivery_of_not_reads h rfl
    rw [clearedBy_of_not_observes hissued rfl, hvalue, hacc]
    rfl

theorem commandPart_accumulates {p : InputSample} {s u : State} (hr : p.rst = false)
    (hsat : ∀ i, issuedCommand s.cfg p = some i → readsCounter i = true → s.acc + s.count ≤ countMax s.cfg)
    (h : commandPart exec p s = .next u) : u.acc + clearedBy p s = s.acc + valueRead p s := by
  obtain ⟨hv, rfl⟩ | ⟨hv, i, hd, hi⟩ := commandPart_cases h
  · simp [clearedBy, valueRead, issuedCommand_of_not_cmdValid _ hv]
  · have hissued : issuedCommand s.cfg p = some i := issuedCommand_of_decode hr hv hd
    exact exec_accumulates hissued (hsat i hissued) hi

theorem pulsePart_acc {p : InputSample} {u t : State} (h : pulsePart exec p u = .next t) : t.acc = u.acc := by
  obtain ⟨-, rfl⟩ | ⟨-, hexec⟩ := pulsePart_cases h
  · rfl
  · exact (exec_delivery_of_not_reads hexec rfl).2

theorem clockEdge_accumulates {p : InputSample} {s t : State} (hr : p.rst = false)
    (hsat : ∀ i, issuedCommand s.cfg p = some i → readsCounter i = true → s.acc + s.count ≤ countMax s.cfg)
    (h : clockEdge p s = .next t) : t.acc + clearedBy p s = s.acc + valueRead p s := by
  obtain ⟨hr', -⟩ | ⟨-, u, hu, ht⟩ := clockWith_cases h
  · simp [hr] at hr'
  · rw [pulsePart_acc ht, commandPart_accumulates hr hsat hu]

/-! ### The ledger of the accumulator in a run -/

/-- What the reads of a run returned is in `acc` or has been used up, if it was so before the run; a reset sets every side to 0. -/
theorem runSamples_accumulates {ps : List InputSample} {s t : State} {reads cleared : Nat}
    (hrun : runSamples ps s = .next t) (hsat : NeverSaturates ps s) (hbalance : reads = s.acc + cleared) :
    readsSince reads ps s = t.acc + clearedSince cleared ps s := by
  induction ps generalizing s reads cleared with
  | nil =>
    cases hrun
    exact hbalance
  | cons p ps ih =>
    obtain ⟨u, hu, ht⟩ := andThen_eq_next.mp (runSamples_cons p ps s ▸ hrun)
    obtain ⟨hp, hps⟩ := hsat
    rw [hu] at hps
    rw [readsSince, clearedSince, hu]
    refine ih (s := u) ht hps ?_
    cases hr : p.rst with
    | true =>
      cases (clockWith_of_rst exec hr s).symm.trans hu
      rfl
    | false =>
      have hsample : u.acc + clearedBy p s = s.acc + valueRead p s := clockEdge_accumulates hr hp hu
      simp only [Bool.false_eq_true, if_false]
      omega

/-- Settles O7: the counter's ledger says where the pulses went that were not read (R43), and the accumulator's where those went
that were. -/
theorem pulsesAreAccountedForByTheEstimator : Obligations.PulsesAreAccountedForByTheEstimator := by
  intro ps s t hvalid hrun hwraps hsat
  have hreads : readsSince 0 ps (resetRegisters s) = t.acc + clearedSince 0 ps (resetRegisters s) :=
    runSamples_accumulates hrun hsat rfl
  calc pulsesSince 0 ps
    _ = t.count + readsSince 0 ps (resetRegisters s) := pulsesAreConserved ps s t hvalid hrun hwraps
    _ = t.count + (t.acc + clearedSince 0 ps (resetRegisters s)) := by rw [hreads]
    _ = t.count + t.acc + clearedSince 0 ps (resetRegisters s) := (Nat.add_assoc ..).symm

end Sys2Proof.Safety

/-! Proofs about the speed estimator unit (41_speed_estimator.md): the three outcomes of an observation by the total `acc + count`
(R82, R84, R85), when the speed sample changes, and the equivalence with the design that resets its counter at the threshold (R89). -/

namespace Sys2Proof.Machine

open Sys2Proof.Safety

/-! ### The three outcomes of an observation (R82, R84, R85) -/

section Outcomes

variable {s : State} (hvalid : s.cfg.Valid)
include hvalid

/-- R3 keeps the threshold within the accumulator's width. -/
theorem ppr_le_top : s.cfg.ppr ≤ 2 ^ s.cfg.cntW - 1 := by
  obtain ⟨-, hppr, -⟩ := hvalid
  exact hppr

/-- The saturation of the accumulator hides nothing from the comparison with the threshold (R3, R73). -/
theorem ppr_le_sat_iff (n : Nat) : s.cfg.ppr ≤ sat s.cfg.cntW n ↔ s.cfg.ppr ≤ n := by
  simpa only [Nat.not_lt] using not_congr (sat_lt_iff (v := n) (ppr_le_top hvalid))

variable {now : Nat}

theorem observation_of_below (hbelow : s.acc + s.count < s.cfg.ppr) :
    observation now s =
      { s with count := 0, rdVal := s.count, acc := s.acc + s.count, fresh := false, degen := false } := by
  have hsat : sat s.cfg.cntW (s.acc + s.count) = s.acc + s.count :=
    sat_eq_self (hbelow.le.trans (ppr_le_top hvalid))
  simp [observation_eq, hsat, Nat.not_le.mpr hbelow]

theorem observation_of_degenerate (hppr : s.cfg.ppr ≤ s.acc + s.count)
    (helapsed : elapsed s.cfg now s.ts < s.cfg.minElapsed) :
    observation now s =
      { s with count := 0, rdVal := s.count, acc := sat s.cfg.cntW (s.acc + s.count), fresh := false, degen := true } := by
  simp [observation_eq, ppr_le_sat_iff hvalid, hppr, helapsed, Nat.not_le.mpr helapsed]

theorem observation_of_sample (hppr : s.cfg.ppr ≤ s.acc + s.count)
    (helapsed : s.cfg.minElapsed ≤ elapsed s.cfg now s.ts) :
    observation now s =
      { s with count := 0, rdVal := s.count, acc := 0, ts := now, spdNz := true,
               spdPeriod := elapsed s.cfg now s.ts, fresh := true, degen := false } := by
  simp [observation_eq, ppr_le_sat_iff hvalid, hppr, helapsed, Nat.not_lt.mpr helapsed]

end Outcomes

/-- Settles O8: below the threshold the accumulator does not saturate. -/
theorem observeBelowThresholdKeepsTheSample : Obligations.ObserveBelowThresholdKeepsTheSample := by
  intro s now hvalid hbelow
  rw [exec_observe, observation_of_below hvalid hbelow]

/-- The speed of a fresh sample in RPM: `60 * TICKS_PER_SECOND / e` (R58, R84). -/
theorem observation_speed_of_fresh_eq_div {now : Nat} {s : State} (hfresh : (observation now s).fresh = true) :
    (observation now s).speed = 60 * (s.cfg.ticksPerSecond : ℚ) / (elapsed s.cfg now s.ts : ℚ) := by
  rw [observation_speed_of_fresh hfresh, Frac.toRat]
  push_cast
  rfl

/-- Settles O9: the observation is a sample, and `60 * TICKS_PER_SECOND / e` is 60 over the elapsed seconds. -/
theorem observeAtThresholdProducesTheSample : Obligations.ObserveAtThresholdProducesTheSample := by
  intro s now hvalid hppr e helapsed
  have hsample := observation_of_sample hvalid hppr helapsed
  refine ⟨observation now s, exec_observe now s, hsample, ?_⟩
  calc (observation now s).speed
    _ = 60 * (s.cfg.ticksPerSecond : ℚ) / (e : ℚ) := observation_speed_of_fresh_eq_div (by rw [hsample])
    _ = 60 / ((e : ℚ) / (s.cfg.ticksPerSecond : ℚ)) := (div_div_eq_mul_div ..).symm

/-- Settles O10: a degenerate interval leaves `acc` at the threshold and `ts` as it was, so the next long enough interval is a
sample. -/
theorem observeDegenerateIntervalIsRetried : Obligations.ObserveDegenerateIntervalIsRetried := by
  intro s now hvalid hppr hdegen
  have hacc : s.cfg.ppr ≤ sat s.cfg.cntW (s.acc + s.count) := (ppr_le_sat_iff hvalid _).mpr hppr
  have ht := observation_of_degenerate hvalid hppr hdegen
  refine ⟨observation now s, exec_observe now s, ht, by rwa [ht], fun later helapsed => ?_⟩
  have hretry := observation_of_sample (s := observation now s) (now := later) (by rwa [observation_cfg])
    (by rwa [ht]) (by rwa [ht])
  refine ⟨_, exec_observe later _, ?_⟩
  rw [hretry, ht]
  exact ⟨rfl, rfl, rfl, rfl, rfl, rfl⟩

/-- Settles O11: only a sample is fresh and leaves no pulse; the other two outcomes leave the total in `acc`. -/
theorem observeComparesTheTotalWithTheThreshold : Obligations.ObserveComparesTheTotalWithTheThreshold := by
  intro s now hvalid
  refine ⟨observation now s, exec_observe now s, ?_⟩
  by_cases hppr : s.cfg.ppr ≤ s.acc + s.count
  · by_cases helapsed : s.cfg.minElapsed ≤ elapsed s.cfg now s.ts
    · simp [observation_of_sample hvalid hppr helapsed, hppr, helapsed]
    · have hsat (hlt : s.acc + s.count < 2 ^ s.cfg.cntW) : sat s.cfg.cntW (s.acc + s.count) = s.acc + s.count :=
        sat_eq_self (Nat.le_sub_one_of_lt hlt)
      simpa [observation_of_degenerate hvalid hppr (Nat.not_le.mp helapsed), helapsed] using hsat
  · simp [observation_of_below hvalid (Nat.not_le.mp hppr), hppr]

/-! ### When the speed sample changes (R82, R84, R85) -/

/-- The speed is a function of what the estimator shows (R58). -/
theorem speed_congr {s t : State} (hcfg : t.cfg = s.cfg) (hview : estimatorView t = estimatorView s) : t.speed = s.speed := by
  have hnz : t.spdNz = s.spdNz := congrArg EstimatorView.spdNz hview
  have hperiod : t.spdPeriod = s.spdPeriod := congrArg EstimatorView.spdPeriod hview
  simp only [State.speed, speedFrac, hcfg, hnz, hperiod]

/-- An observation keeps the speed, or is fresh and its interval is not degenerate. -/
theorem observation_speed_cases (now : Nat) (s : State) :
    (observation now s).speed = s.speed ∨
      (observation now s).fresh = true ∧ s.cfg.minElapsed ≤ elapsed s.cfg now s.ts := by
  obtain ⟨-, h⟩ | ⟨-, -, h⟩ | ⟨-, helapsed, h⟩ := observation_cases now s
  · exact .inl (by rw [h]; rfl)
  · exact .inl (by rw [h]; rfl)
  · exact .inr ⟨by rw [h], helapsed⟩

section Estimator

variable {i : Instr} {s t : State} (h : exec i s = .next t)
include h

/-- After the observation of a CYCLE, its other sub-steps leave the estimator alone (R131). -/
theorem exec_estimatorView_of_observes {now : Nat} (hi : observeNow i = some now) :
    estimatorView t = estimatorView (observation now s) := by
  cases i with
  | observe =>
    cases h
    cases hi
    rfl
  | cycle =>
    cases h
    cases hi
    simp [estimatorView, condition_eq, buttonPhase_eq, driftPhase_eq, motorCommand_eq]
  | pulse | nop | rdrst | potcond | cruise | slew | reserved111 => cases hi

theorem exec_estimatorView_of_not_observes (hi : observeNow i = none) : estimatorView t = estimatorView s := by
  obtain ⟨hts, hnz, hperiod, hfresh, hdegen⟩ := exec_estimator_of_not_observes h hi
  simp only [estimatorView, hts, hnz, hperiod, hfresh, hdegen]

end Estimator

/-- Settles O13: an operation that does not observe keeps the whole sample; one that does is an observation to the estimator. -/
theorem speedChangesOnlyInAFreshSample : Obligations.SpeedChangesOnlyInAFreshSample := by
  intro i s _
  obtain ⟨t, h⟩ := exec_completes i s
  refine ⟨t, h, ?_⟩
  cases hi : observeNow i with
  | none => exact .inl (speed_congr (exec_cfg h) (exec_estimatorView_of_not_observes h hi))
  | some now =>
    have hview : estimatorView t = estimatorView (observation now s) := exec_estimatorView_of_observes h hi
    have hspeed : t.speed = (observation now s).speed :=
      speed_congr ((exec_cfg h).trans (observation_cfg now s).symm) hview
    obtain hkept | ⟨hfresh, helapsed⟩ := observation_speed_cases now s
    · exact .inl (hspeed.trans hkept)
    · exact .inr ⟨now, rfl, (congrArg EstimatorView.fresh hview).trans hfresh, helapsed,
        hspeed.trans (observation_speed_of_fresh_eq_div hfresh)⟩

end Sys2Proof.Machine

namespace Sys2Proof.Safety

open Sys2Proof.Machine

/-! ### What the design of R89 does with each operation -/

theorem ThresholdDesign.apply_pulse (c : Config) (d : ThresholdDesign) :
    d.apply c .pulse = { d with total := d.total + 1 } := rfl

theorem ThresholdDesign.apply_of_not_observes {i : Instr} (c : Config) (d : ThresholdDesign) (hpulse : i ≠ .pulse)
    (hi : observeNow i = none) : d.apply c i = d := by
  rw [ThresholdDesign.apply, if_neg hpulse, hi]

theorem ne_pulse_of_observes {i : Instr} {now : Nat} (hi : observeNow i = some now) : i ≠ .pulse := by
  rintro rfl
  cases hi

theorem readsCounter_of_observes {i : Instr} {now : Nat} (hi : observeNow i = some now) : readsCounter i = true := by
  cases i with
  | observe | cycle => rfl
  | pulse | nop | rdrst | potcond | cruise | slew | reserved111 => cases hi

section Observes

variable {c : Config} {i : Instr} {d : ThresholdDesign} {now : Nat} (hi : observeNow i = some now)
include hi

theorem ThresholdDesign.apply_of_below (hbelow : d.total < c.ppr) :
    d.apply c i = { d with fresh := false, degen := false } := by
  simp only [ThresholdDesign.apply, if_neg (ne_pulse_of_observes hi), hi, if_pos hbelow]

theorem ThresholdDesign.apply_of_degenerate (hppr : c.ppr ≤ d.total) (helapsed : elapsed c now d.ts < c.minElapsed) :
    d.apply c i = { d with fresh := false, degen := true } := by
  simp only [ThresholdDesign.apply, if_neg (ne_pulse_of_observes hi), hi, if_neg (Nat.not_lt.mpr hppr), if_pos helapsed]

theorem ThresholdDesign.apply_of_sample (hppr : c.ppr ≤ d.total) (helapsed : c.minElapsed ≤ elapsed c now d.ts) :
    d.apply c i = { d with total := 0, ts := now, spdNz := true, spdPeriod := elapsed c now d.ts,
                           fresh := true, degen := false } := by
  simp only [ThresholdDesign.apply, if_neg (ne_pulse_of_observes hi), hi, if_neg (Nat.not_lt.mpr hppr),
    if_neg (Nat.not_lt.mpr helapsed)]

end Observes

/-! ### The two designs show the same samples (R89) -/

theorem sat_sat (n v : Nat) : sat n (sat n v) = sat n v := sat_eq_self (sat_le n v)

theorem sat_succ_congr {n v w : Nat} (h : sat n v = sat n w) : sat n (v + 1) = sat n (w + 1) := by
  unfold sat at *
  omega

theorem ThresholdDesign.view_eq_iff {d : ThresholdDesign} {s : State} :
    d.view = estimatorView s ↔
      d.fresh = s.fresh ∧ d.spdNz = s.spdNz ∧ d.spdPeriod = s.spdPeriod ∧ d.degen = s.degen ∧ d.ts = s.ts :=
  Eq.to_iff (EstimatorView.mk.injEq ..)

/-- Only a PULSE raises the counter; any other operation keeps or clears it (R47). -/
theorem exec_count_le {i : Instr} {s t : State} (h : exec i s = .next t) (hpulse : i ≠ .pulse) : t.count ≤ s.count := by
  cases hi : readsCounter i with
  | true => exact exec_count_of_reads h hi ▸ Nat.zero_le _
  | false => exact (exec_count_of_not_reads h hpulse hi).le

/-- Without a PULSE or an observation the pulses stay where they are or move into `acc`, where only saturation loses any (R73). -/
theorem exec_sat_total_of_not_observes {i : Instr} {s t : State} (h : exec i s = .next t) (hpulse : i ≠ .pulse)
    (hi : observeNow i = none) : sat s.cfg.cntW (t.acc + t.count) = sat s.cfg.cntW (s.acc + s.count) := by
  cases i with
  | rdrst =>
    cases h
    exact sat_sat _ _
  | nop | potcond | cruise | slew | reserved111 =>
    obtain ⟨-, hacc⟩ := exec_delivery_of_not_reads h rfl
    rw [exec_count_of_not_reads h hpulse rfl, hacc]
  | pulse => exact absurd rfl hpulse
  | observe | cycle => cases hi

/-- The simulation between this block and the design of R89. The block's pulses are those of the unbounded counter as far as the
accumulator's width can tell: above it `acc` saturates and loses pulses, but the threshold lies within it (R3), so that both sides
stay on the same side of the threshold. -/
structure Simulates (s : State) (d : ThresholdDesign) : Prop where
  valid : s.cfg.Valid
  count_lt : s.count < 2 ^ s.cfg.cntW
  pulses : sat s.cfg.cntW d.total = sat s.cfg.cntW (s.acc + s.count)
  view : d.view = estimatorView s

section Simulation

variable {s : State} {d : ThresholdDesign} (hsim : Simulates s d)
include hsim

/-- Both sides make the same comparison with the threshold. -/
theorem Simulates.ppr_le_total_iff : s.cfg.ppr ≤ d.total ↔ s.cfg.ppr ≤ s.acc + s.count := by
  rw [← ppr_le_sat_iff hsim.valid, hsim.pulses, ppr_le_sat_iff hsim.valid]

/-- A PULSE that does not wrap is one more pulse on both sides (R71). -/
theorem bumpCount_keeps_simulates (hwrap : s.count ≠ countMax s.cfg) : Simulates (bumpCount s) (d.apply s.cfg .pulse) where
  valid := hsim.valid
  count_lt := Nat.mod_lt _ (Nat.two_pow_pos _)
  pulses := by
    rw [ThresholdDesign.apply_pulse, bumpCount_count_of_ne_countMax hsim.count_lt hwrap]
    exact sat_succ_congr hsim.pulses
  view := hsim.view

/-- An observation has the same outcome on both sides: below the threshold and in a degenerate interval both keep their pulses, and a
sample leaves both without (R82, R84, R85). -/
theorem observation_simulates {i : Instr} {now : Nat} (hi : observeNow i = some now) :
    sat s.cfg.cntW (d.apply s.cfg i).total = sat s.cfg.cntW (observation now s).acc ∧
      (d.apply s.cfg i).view = estimatorView (observation now s) := by
  obtain ⟨-, hnz, hperiod, -, hts⟩ := ThresholdDesign.view_eq_iff.mp hsim.view
  by_cases hppr : s.cfg.ppr ≤ s.acc + s.count
  · have htotal : s.cfg.ppr ≤ d.total := hsim.ppr_le_total_iff.mpr hppr
    by_cases helapsed : s.cfg.minElapsed ≤ elapsed s.cfg now s.ts
    · rw [observation_of_sample hsim.valid hppr helapsed, ThresholdDesign.apply_of_sample hi htotal (hts ▸ helapsed), hts]
      exact ⟨rfl, rfl⟩
    · have hdegen : elapsed s.cfg now s.ts < s.cfg.minElapsed := Nat.not_le.mp helapsed
      rw [observation_of_degenerate hsim.valid hppr hdegen, ThresholdDesign.apply_of_degenerate hi htotal (hts ▸ hdegen)]
      exact ⟨hsim.pulses.trans (sat_sat _ _).symm, ThresholdDesign.view_eq_iff.mpr ⟨rfl, hnz, hperiod, rfl, hts⟩⟩
  · have htotal : d.total < s.cfg.ppr := Nat.not_le.mp (mt hsim.ppr_le_total_iff.mp hppr)
    rw [observation_of_below hsim.valid (Nat.not_le.mp hppr), ThresholdDesign.apply_of_below hi htotal]
    exact ⟨hsim.pulses, ThresholdDesign.view_eq_iff.mpr ⟨rfl, hnz, hperiod, rfl, hts⟩⟩

/-- Every operation keeps the simulation, if it is no PULSE that wraps. -/
theorem exec_keeps_simulates {i : Instr} {t : State} (hwrap : i = .pulse → s.count ≠ countMax s.cfg)
    (h : exec i s = .next t) : Simulates t (d.apply s.cfg i) := by
  by_cases hpulse : i = .pulse
  · subst hpulse
    cases h
    exact bumpCount_keeps_simulates hsim (hwrap rfl)
  have hcfg : t.cfg = s.cfg := exec_cfg h
  have hcount : t.count < 2 ^ t.cfg.cntW := hcfg ▸ (exec_count_le h hpulse).trans_lt hsim.count_lt
  cases hi : observeNow i with
  | none =>
    rw [ThresholdDesign.apply_of_not_observes _ _ hpulse hi]
    exact {
      valid := hcfg ▸ hsim.valid
      count_lt := hcount
      pulses := by rw [hcfg, exec_sat_total_of_not_observes h hpulse hi, hsim.pulses]
      view := hsim.view.trans (exec_estimatorView_of_not_observes h hi).symm }
  | some now =>
    have hcleared : t.count = 0 := exec_count_of_reads h (readsCounter_of_observes hi)
    obtain ⟨hpulses, hview⟩ := observation_simulates hsim hi
    exact {
      valid := hcfg ▸ hsim.valid
      count_lt := hcount
      pulses := by rw [hcfg, hcleared, Nat.add_zero, exec_acc_of_observes h hi, hpulses]
      view := hview.trans (exec_estimatorView_of_observes h hi).symm }

end Simulation

/-- Simulated operation by operation, the two show the same in every run without a wrap. -/
theorem viewTrace_eq_thresholdTrace {is : List Instr} {s : State} {d : ThresholdDesign} (hsim : Simulates s d)
    (hwraps : NeverWrapsSeq is s) : viewTrace is s = thresholdTrace s.cfg is d := by
  induction is generalizing s d with
  | nil => rfl
  | cons i is ih =>
    obtain ⟨hwrap, hwraps⟩ := hwraps
    obtain ⟨t, h⟩ := exec_completes i s
    have hnext : Simulates t (d.apply s.cfg i) := exec_keeps_simulates hsim hwrap h
    rw [h] at hwraps
    have htail : viewTrace is t = thresholdTrace t.cfg is (d.apply s.cfg i) := ih hnext hwraps
    rw [exec_cfg h] at htail
    calc viewTrace (i :: is) s
      _ = estimatorView t :: viewTrace is t := by rw [viewTrace, h, stateAfter]
      _ = (d.apply s.cfg i).view :: thresholdTrace s.cfg is (d.apply s.cfg i) := by rw [hnext.view, htail]

/-- Settles O12, by induction on the operations from states that the simulation relates; it relates the two at the start because
their totals are equal. -/
theorem thresholdDesignShowsTheSameSamples : Obligations.ThresholdDesignShowsTheSameSamples := by
  intro is s d hvalid hwidth htotal hview hwraps
  exact viewTrace_eq_thresholdTrace ⟨hvalid, hwidth.count_lt, by rw [htotal], hview⟩ hwraps

end Sys2Proof.Safety

/-! Proofs about the dead-zone filter unit (42_dead_zone_filter.md): the integer form that the hardware computes (R95), the exact
rationals it stands for (R91 to R93), and the purity of POTCOND (R96). -/

namespace Sys2Proof.Machine

/-! ### The integer form (R95) -/

theorem deadZoneNum_eq (c : Config) (raw : Nat) :
    deadZoneNum c raw =
      if min (raw * c.tsm) (c.rawMax * c.tsm) * c.dzDen < c.dzNum * c.rawMax then 0
      else min (raw * c.tsm) (c.rawMax * c.tsm) := rfl

/-- With the defaults the clamp never acts on a sample that fits its field, and the dead zone is `raw * 100 < 1023` (R92, R95). -/
theorem deadZoneNum_default {raw : Nat} (hraw : raw < 2 ^ 10) :
    deadZoneNum Config.default raw = if raw ≤ 10 then 0 else 20 * raw := by
  have hclamp : min (raw * 20) (1023 * 20) = 20 * raw := by omega
  have hdead : 20 * raw * 5 < 1 * 1023 ↔ raw ≤ 10 := by omega
  calc deadZoneNum Config.default raw
    _ = if min (raw * 20) (1023 * 20) * 5 < 1 * 1023 then 0 else min (raw * 20) (1023 * 20) := deadZoneNum_eq _ raw
    _ = if raw ≤ 10 then 0 else 20 * raw := by simp only [hclamp, hdead]

/-- Settles O15: the integer form is what POTCOND computes, and the defaults give its boundary between 10 and 11. -/
theorem potcondIntegerForm : Obligations.PotcondIntegerForm := by
  refine ⟨fun s raw _ => ?_, fun s raw hcfg hraw => ?_⟩
  · rw [exec_potcond, condition_eq, deadZoneNum_eq]
  · rw [exec_potcond, condition_eq, hcfg, deadZoneNum_default hraw]

/-! ### The exact rationals (R91 to R93) -/

theorem condition_sp (raw : Nat) (s : State) : (condition raw s).sp = (deadZoneNum s.cfg raw : ℚ) / (s.cfg.rawMax : ℚ) := rfl

section Exact

variable {c : Config} (hrawMax : 0 < c.rawMax)
include hrawMax

/-- The clamp of the numerator is the clamp of the scaled sample (R91, R92). -/
theorem clampedNum_div_rawMax (raw : Nat) :
    ((min (raw * c.tsm) (c.rawMax * c.tsm) : Nat) : ℚ) / (c.rawMax : ℚ) =
      min ((raw : ℚ) * (c.tsm : ℚ) / (c.rawMax : ℚ)) (c.tsm : ℚ) := by
  have hpos : (0 : ℚ) < c.rawMax := Nat.cast_pos.mpr hrawMax
  rw [Nat.cast_min, ← min_div_div_right hpos.le, Nat.cast_mul, Nat.cast_mul, mul_div_cancel_left₀ _ hpos.ne']

/-- The test of R95 is the strict comparison of R93 multiplied through by the two denominators. -/
theorem div_rawMax_lt_deadZone_iff (hdzDen : 0 < c.dzDen) (n : Nat) :
    (n : ℚ) / (c.rawMax : ℚ) < c.deadZone ↔ n * c.dzDen < c.dzNum * c.rawMax := by
  rw [Config.deadZone, div_lt_div_iff₀ (Nat.cast_pos.mpr hrawMax) (Nat.cast_pos.mpr hdzDen)]
  norm_cast

/-- The integer form stands for the rules on exact rationals (R95). -/
theorem deadZoneNum_div_rawMax (hdzDen : 0 < c.dzDen) {raw : Nat} {x1 : ℚ}
    (hx1 : x1 = min ((raw : ℚ) * (c.tsm : ℚ) / (c.rawMax : ℚ)) (c.tsm : ℚ)) :
    (deadZoneNum c raw : ℚ) / (c.rawMax : ℚ) = if x1 < c.deadZone then 0 else x1 := by
  rw [hx1, ← clampedNum_div_rawMax hrawMax raw, deadZoneNum_eq]
  simp only [div_rawMax_lt_deadZone_iff hrawMax hdzDen]
  split
  · rw [Nat.cast_zero, zero_div]
  · rfl

end Exact

/-- Settles O14: POTCOND writes only the numerator of `sp`, and over `RAW_MAX` that numerator is the filtered sample. -/
theorem potcondFiltersTheExactScaledSample : Obligations.PotcondFiltersTheExactScaledSample := by
  intro s raw hvalid x0 x1
  obtain ⟨-, -, -, -, -, -, -, hrawMax, -, -, -, -, -, hdzDen, -⟩ := hvalid
  exact ⟨condition raw s, exec_potcond raw s, condition_eq raw s,
    (condition_sp raw s).trans (deadZoneNum_div_rawMax hrawMax hdzDen rfl)⟩

/-! ### Purity (R96) -/

/-- Any list of operations runs to its end, and none of them changes the parameters (R1). -/
theorem execSeq_completes (is : List Instr) (s : State) : ∃ t, execSeq is s = .next t ∧ t.cfg = s.cfg := by
  induction is generalizing s with
  | nil => exact ⟨s, rfl, rfl⟩
  | cons i is ih =>
    obtain ⟨u, hu⟩ := exec_completes i s
    obtain ⟨t, ht, hcfg⟩ := ih u
    exact ⟨t, by rw [execSeq_cons, hu, andThen_next, ht], hcfg.trans (exec_cfg hu)⟩

/-- Settles O16: POTCOND reads the parameters only, and no operation that runs between two of them changes the parameters. -/
theorem potcondIsPure : Obligations.PotcondIsPure := by
  refine ⟨fun s s' raw hcfg => ?_, fun s raw between => ?_⟩
  · exact ⟨_, _, exec_potcond raw s, exec_potcond raw s', condition_sp_congr hcfg raw⟩
  · obtain ⟨u, hu, hcfg⟩ := execSeq_completes between (condition raw s)
    exact ⟨_, u, _, exec_potcond raw s, hu, exec_potcond raw u,
      condition_sp_congr (hcfg.trans (condition_cfg raw s)) raw⟩

end Sys2Proof.Machine

/-! Proofs about the cruise FSM (43_cruise_fsm.md): the exact rational rules that its integer forms compute (R101, R105, R113), what
CRUISE and CYCLE do to it (R101 to R111, R114), and the distance between accepted edges (R101, R104). -/

namespace Sys2Proof.Machine

/-! ### The exact rules behind the integer forms (R2, R105, R113) -/

/-- A whole number of ticks is below the rounded `DEBOUNCE_TICKS` just when it is below the exact quotient of R2 (entry 8). -/
theorem lt_debounceTicks_iff (c : Config) (n : Nat) :
    n < debounceTicks c ↔ (n : ℚ) < (c.debounceInterval : ℚ) * (c.ticksPerSecond : ℚ) / 1000 := by
  have hceil : n < debounceTicks c ↔ n * 1000 < c.debounceInterval * c.ticksPerSecond := by
    unfold debounceTicks
    omega
  rw [hceil, lt_div_iff₀ (by norm_num)]
  norm_cast

theorem debounceInterval_le_debounceTicks (c : Config) :
    (c.debounceInterval : ℚ) * (c.ticksPerSecond : ℚ) / 1000 ≤ (debounceTicks c : ℚ) :=
  not_lt.mp fun h => lt_irrefl _ ((lt_debounceTicks_iff c _).mpr h)

theorem cast_elapsed (c : Config) (a b : Nat) :
    ((elapsed c a b : Nat) : Int) = ((a : Int) - (b : Int)) % ((2 ^ c.timeW : Nat) : Int) :=
  Int.toNat_of_nonneg (Int.emod_nonneg _ (by exact_mod_cast (Nat.two_pow_pos c.timeW).ne'))

theorem cast_absDiff (a b : Nat) : ((absDiff a b : Nat) : ℚ) = |(a : ℚ) - (b : ℚ)| := by
  unfold absDiff
  split
  · next h =>
    rw [Nat.cast_sub h, abs_of_nonneg (sub_nonneg.mpr (Nat.cast_le.mpr h))]
  · next h =>
    have hle : a ≤ b := by omega
    rw [Nat.cast_sub hle, abs_sub_comm, abs_of_nonneg (sub_nonneg.mpr (Nat.cast_le.mpr hle))]

theorem abs_sp_sub_spPrev (s : State) :
    |s.sp - s.spPrev| = (absDiff s.spNum s.spPrevNum : ℚ) / (s.cfg.rawMax : ℚ) := by
  calc |s.sp - s.spPrev|
    _ = |((s.spNum : ℚ) - (s.spPrevNum : ℚ)) / (s.cfg.rawMax : ℚ)| := by rw [sub_div]; rfl
    _ = (absDiff s.spNum s.spPrevNum : ℚ) / (s.cfg.rawMax : ℚ) := by rw [abs_div, Nat.abs_cast, cast_absDiff]

/-- The drift test of R113 is the strict comparison of R105 multiplied through by the two denominators. -/
theorem abs_sp_sub_spPrev_gt_drift_iff {s : State} (hvalid : s.cfg.Valid) :
    |s.sp - s.spPrev| > s.cfg.drift ↔
      s.cfg.driftNum * s.cfg.rawMax < absDiff s.spNum s.spPrevNum * s.cfg.driftDen := by
  obtain ⟨-, -, -, -, -, -, -, hrawMax, -, -, -, -, hdriftDen, -, -⟩ := hvalid
  rw [abs_sp_sub_spPrev, Config.drift, gt_iff_lt,
    div_lt_div_iff₀ (Nat.cast_pos.mpr hdriftDen) (Nat.cast_pos.mpr hrawMax)]
  norm_cast

theorem driftHolds_iff {s : State} (hvalid : s.cfg.Valid) :
    driftHolds s = true ↔ |s.sp - s.spPrev| > s.cfg.drift := by
  rw [abs_sp_sub_spPrev_gt_drift_iff hvalid, driftHolds, decide_eq_true_iff]

theorem drift_default_iff {s : State} (hcfg : s.cfg = Config.default) :
    |s.sp - s.spPrev| > s.cfg.drift ↔ s.spPrevNum + 512 ≤ s.spNum ∨ s.spNum + 512 ≤ s.spPrevNum := by
  rw [abs_sp_sub_spPrev_gt_drift_iff (by rw [hcfg]; decide), hcfg]
  show 1 * 1023 < absDiff s.spNum s.spPrevNum * 2 ↔ _
  unfold absDiff
  split <;> omega

/-- Settles O18: the defaults put the boundary at 512, which lies between 25 and 26 raw steps of 20. -/
theorem driftIntegerForm : Obligations.DriftIntegerForm := by
  refine fun s hvalid => ⟨abs_sp_sub_spPrev_gt_drift_iff hvalid, drift_default_iff, ?_⟩
  intro r0 r1 hcfg hdead0 hdead1 hprev hsp hr0 hr1
  rw [hcfg, deadZoneNum_default hr0, if_neg (by omega)] at hprev
  rw [hcfg, deadZoneNum_default hr1, if_neg (by omega)] at hsp
  rw [drift_default_iff hcfg]
  omega

/-! ### The conditions of the two phases (R101 to R103, R106, R107) -/

theorem quiet_iff (now : Nat) (s : State) :
    quiet now s = true ↔ s.dbValid = true ∧ elapsed s.cfg now s.dbTime < debounceTicks s.cfg := by
  rw [quiet, Bool.and_eq_true, decide_eq_true_iff]

theorem toggles_iff (pressed : Bool) (now : Nat) (s : State) :
    toggles pressed now s = true ↔ pressed = true ∧ s.btnPrev = false ∧ ¬ quiet now s = true := by
  simp [toggles, edgeSeen, and_assoc]

/-- An accepted edge turns the state over, and anything else keeps it (R103). -/
theorem buttonPhase_cruise_eq_engaged_iff (pressed : Bool) (now : Nat) (s : State) :
    (buttonPhase pressed now s).cruise = .engaged ↔ (s.cruise = .engaged ↔ ¬ toggles pressed now s = true) := by
  rw [buttonPhase_eq]
  cases s.cruise <;> cases toggles pressed now s <;> simp [otherState]

theorem driftPhase_cruise_eq_engaged_iff (s : State) :
    (driftPhase s).cruise = .engaged ↔ s.cruise = .engaged ∧ ¬ driftHolds s = true := by
  rw [driftPhase_eq, driftDisengages]
  cases s.cruise <;> cases driftHolds s <;> simp

theorem driftPhase_evtDrift_iff (s : State) :
    (driftPhase s).evtDrift = true ↔ driftHolds s = true ∧ s.cruise = .engaged := by
  rw [driftPhase_eq]
  show driftDisengages s = true ↔ _
  rw [driftDisengages, Bool.and_eq_true, decide_eq_true_iff]

theorem driftHolds_buttonPhase (pressed : Bool) (now : Nat) (s : State) :
    driftHolds (buttonPhase pressed now s) = driftHolds s := by
  simp [driftHolds, buttonPhase_eq]

/-- Settles O17: what the phases write is known, and each of their conditions is its exact rule. -/
theorem cruiseUpdatesTheStateMachine : Obligations.CruiseUpdatesTheStateMachine := by
  intro s pressed now hvalid e quietNow toggle drift c1Engaged
  have he : (e : ℚ) = (elapsed s.cfg now s.dbTime : ℚ) := by
    rw [← Int.cast_natCast (elapsed s.cfg now s.dbTime), cast_elapsed]
  have hquiet : quiet now s = true ↔ quietNow := by rw [quiet_iff, lt_debounceTicks_iff, ← he]
  have htoggle : toggles pressed now s = true ↔ toggle := by rw [toggles_iff, hquiet]
  have hdrift : driftHolds (buttonPhase pressed now s) = true ↔ drift := by
    rw [driftHolds_buttonPhase, driftHolds_iff hvalid]
  have hc1 : (buttonPhase pressed now s).cruise = .engaged ↔ c1Engaged := by
    rw [buttonPhase_cruise_eq_engaged_iff, htoggle]
  refine ⟨_, exec_cruise pressed now s, ?frame, ?evtToggle, ?dbValid, ?dbTimeNew, ?dbTimeOld, ?evtDrift, ?cruise⟩
  case frame => simp [driftPhase_eq, buttonPhase_eq]
  case evtToggle => simp [driftPhase_eq, buttonPhase_eq, htoggle]
  case dbValid => simp [driftPhase_eq, buttonPhase_eq, htoggle, hquiet, or_comm]
  case dbTimeNew => exact fun h => by simp [driftPhase_eq, buttonPhase_eq, htoggle.mpr h]
  case dbTimeOld => exact fun h => by simp [driftPhase_eq, buttonPhase_eq, mt htoggle.mp h]
  case evtDrift => rw [driftPhase_evtDrift_iff, hdrift, hc1]
  case cruise => rw [driftPhase_cruise_eq_engaged_iff, hdrift, hc1]

/-! ### What CRUISE and CYCLE do to the FSM alike (R112, R131) -/

/-- The observation of a CYCLE writes nothing that the button phase reads. -/
theorem quiet_observation (now now' : Nat) (s : State) : quiet now (observation now' s) = quiet now s := by
  apply quiet_congr <;> simp [observation_eq]

theorem toggles_observation (pressed : Bool) (now now' : Nat) (s : State) :
    toggles pressed now (observation now' s) = toggles pressed now s := by
  apply toggles_congr <;> simp [observation_eq]

@[simp] theorem driftPhase_spNum (s : State) : (driftPhase s).spNum = s.spNum := by rw [driftPhase_eq]

@[simp] theorem condition_cruise (raw : Nat) (s : State) : (condition raw s).cruise = s.cruise := rfl

@[simp] theorem motorCommand_cruise (s : State) : (motorCommand s).cruise = s.cruise := rfl

@[simp] theorem motorCommand_spNum (s : State) : (motorCommand s).spNum = s.spNum := rfl

/-- The drift test depends on the setpoint tested, and otherwise only on what stays until the drift phase (R105). -/
theorem driftHolds_writeSetpoint {s u : State} (hcfg : u.cfg = s.cfg) (hprev : u.spPrevNum = s.spPrevNum) :
    driftHolds (writeSetpoint u.spNum s) = driftHolds u := by
  rw [driftHolds, driftHolds, hcfg, hprev]
  rfl

section Updates

variable {i : Instr} {s t : State} {pressed : Bool} {now : Nat} (h : exec i s = .next t)
  (hi : i = .cruise pressed now ∨ ∃ raw, i = .cycle pressed raw now)
include h hi

theorem exec_debounce_of_updates :
    t.evtToggle = toggles pressed now s ∧ t.dbValid = (toggles pressed now s || quiet now s) ∧
      t.dbTime = if toggles pressed now s then now else s.dbTime := by
  obtain rfl | ⟨raw, rfl⟩ := hi
  · cases h
    simp [driftPhase_eq, buttonPhase_eq]
  · cases h
    have htime : (observation now s).dbTime = s.dbTime := by rw [observation_eq]
    simp [motorCommand_eq, driftPhase_eq, condition_eq, buttonPhase_eq, toggles_observation, quiet_observation, htime]

/-- Both commands test the setpoint they leave against the one remembered before them (R105, R131). -/
theorem exec_cruise_eq_engaged_iff_of_updates :
    t.cruise = .engaged ↔
      (s.cruise = .engaged ↔ ¬ t.evtToggle = true) ∧ ¬ driftHolds (writeSetpoint t.spNum s) = true := by
  obtain ⟨hevent, -, -⟩ := exec_debounce_of_updates h hi
  rw [hevent]
  obtain rfl | ⟨raw, rfl⟩ := hi
  · cases h
    have hdrift := driftHolds_writeSetpoint (s := s) (u := buttonPhase pressed now s) (by simp) (by simp [buttonPhase_eq])
    rw [driftPhase_cruise_eq_engaged_iff, buttonPhase_cruise_eq_engaged_iff, driftPhase_spNum, hdrift]
  · cases h
    have hdrift := driftHolds_writeSetpoint (s := s) (u := condition raw (buttonPhase pressed now (observation now s)))
      (by simp) (by simp [condition_eq, buttonPhase_eq, observation_eq])
    have hcruise : (observation now s).cruise = s.cruise := by rw [observation_eq]
    rw [motorCommand_cruise, driftPhase_cruise_eq_engaged_iff, condition_cruise, buttonPhase_cruise_eq_engaged_iff,
      toggles_observation, hcruise, motorCommand_spNum, driftPhase_spNum, hdrift]

end Updates

/-- Settles O19: both commands end Engaged just when one of a toggle and Engaged before held, and drift did not. -/
theorem cruiseTransitionsAreTheAllowedOnes : Obligations.CruiseTransitionsAreTheAllowedOnes := by
  intro i s pressed now hvalid hi
  obtain ⟨t, h⟩ := exec_completes i s
  obtain ⟨hevent, -, -⟩ := exec_debounce_of_updates h hi
  have hengaged := exec_cruise_eq_engaged_iff_of_updates h hi
  have hsp : (writeSetpoint t.spNum s).sp = t.sp := by simp [State.sp, setpointFrac, exec_cfg h]
  have hdrift : driftHolds (writeSetpoint t.spNum s) = true ↔ |t.sp - s.spPrev| > s.cfg.drift := by
    rw [driftHolds_iff (s := writeSetpoint t.spNum s) hvalid, hsp]
    rfl
  rw [hdrift] at hengaged
  refine ⟨t, h, fun ht => ?engaged, fun ht => ?toggle, fun ht => ?drift⟩
  case engaged =>
    obtain ⟨hstate, hno⟩ := hengaged.mp ht
    refine ⟨?_, hno⟩
    cases hc : s.cruise <;> simpa [hc] using hstate
  case toggle =>
    rw [hevent, toggles_iff, quiet_iff] at ht
    exact ht
  case drift =>
    cases hc : t.cruise with
    | disengaged => rfl
    | engaged => exact absurd ht (hengaged.mp hc).2

end Sys2Proof.Machine

namespace Sys2Proof.Safety

open Sys2Proof.Machine

/-! ### One sample of a run, as the debounce timer sees it (R101, R104) -/

/-- The timestamp that a sample gives to the cruise FSM, if any. -/
def fsmTime (c : Config) (p : InputSample) : Option Nat := (issuedCommand c p).bind cruiseNow

theorem cruiseNow_eq_some {i : Instr} {now : Nat} (hnow : cruiseNow i = some now) :
    ∃ pressed, i = .cruise pressed now ∨ ∃ raw, i = .cycle pressed raw now := by
  cases i with
  | cruise pressed =>
    cases hnow
    exact ⟨pressed, .inl rfl⟩
  | cycle pressed raw =>
    cases hnow
    exact ⟨pressed, .inr ⟨raw, rfl⟩⟩
  | pulse | nop | rdrst | observe | potcond | slew | reserved111 => cases hnow

theorem not_updatesCruise_of_cruiseNow {i : Instr} (hnow : cruiseNow i = none) : updatesCruise i = false := by
  cases i with
  | cruise | cycle => cases hnow
  | pulse | nop | rdrst | observe | potcond | slew | reserved111 => rfl

theorem now_lt_of_wellFormed {c : Config} {i : Instr} {now : Nat} (hwf : i.wellFormed c = true)
    (hnow : cruiseNow i = some now) : now < 2 ^ c.timeW := by
  obtain ⟨pressed, rfl | ⟨raw, rfl⟩⟩ := cruiseNow_eq_some hnow
  · exact of_decide_eq_true hwf
  · exact of_decide_eq_true (Bool.and_eq_true_iff.mp hwf).2

theorem pulsePart_debounce {p : InputSample} {u t : State} (h : pulsePart exec p u = .next t) :
    t.dbValid = u.dbValid ∧ t.dbTime = u.dbTime ∧ t.evtToggle = u.evtToggle := by
  obtain ⟨-, rfl⟩ | ⟨-, hpulse⟩ := pulsePart_cases h
  · exact ⟨rfl, rfl, rfl⟩
  · obtain ⟨-, -, -, hvalid, htime, hevent, -⟩ := exec_cruise_of_not_updates hpulse rfl
    exact ⟨hvalid, htime, hevent⟩

/-- A sample without reset either issues nothing and goes on to its pulse part, or issues a well-formed operation and runs it first. -/
theorem clockEdge_issued_cases {p : InputSample} {s t : State} (hr : p.rst = false) (h : clockEdge p s = .next t) :
    (issuedCommand s.cfg p = none ∧ pulsePart exec p s = .next t) ∨
    ∃ i u, issuedCommand s.cfg p = some i ∧ i.wellFormed s.cfg = true ∧ exec i s = .next u ∧
      pulsePart exec p u = .next t := by
  obtain ⟨hr', -⟩ | ⟨-, u, hcommand, hpulse⟩ := clockWith_cases h
  · simp [hr] at hr'
  · obtain ⟨hv, rfl⟩ | ⟨hv, i, hd, hexec⟩ := commandPart_cases hcommand
    · exact .inl ⟨issuedCommand_of_not_cmdValid _ hv, hpulse⟩
    · exact .inr ⟨i, u, issuedCommand_of_decode hr hv hd, decode_wellFormed hd, hexec, hpulse⟩

/-- A sample without reset either leaves the debounce timer alone, or gives the FSM a timestamp that fits its field. -/
theorem clockEdge_debounce_cases {p : InputSample} {s t : State} (hr : p.rst = false) (h : clockEdge p s = .next t) :
    (fsmTime s.cfg p = none ∧ t.dbValid = s.dbValid ∧ t.dbTime = s.dbTime) ∨
    ∃ pressed now, fsmTime s.cfg p = some now ∧ now < 2 ^ s.cfg.timeW ∧
      t.evtToggle = toggles pressed now s ∧ t.dbValid = (toggles pressed now s || quiet now s) ∧
      t.dbTime = if toggles pressed now s then now else s.dbTime := by
  obtain ⟨hissued, hpulse⟩ | ⟨i, u, hissued, hwf, hexec, hpulse⟩ := clockEdge_issued_cases hr h
  · obtain ⟨hvalid, htime, -⟩ := pulsePart_debounce hpulse
    exact .inl ⟨by rw [fsmTime, hissued, Option.bind_none], hvalid, htime⟩
  · obtain ⟨hvalid, htime, hevent⟩ := pulsePart_debounce hpulse
    have hfsm : fsmTime s.cfg p = cruiseNow i := by rw [fsmTime, hissued, Option.bind_some]
    rw [hfsm, hvalid, htime, hevent]
    cases hnow : cruiseNow i with
    | none =>
      obtain ⟨-, -, -, hvalid', htime', -, -⟩ := exec_cruise_of_not_updates hexec (not_updatesCruise_of_cruiseNow hnow)
      exact .inl ⟨rfl, hvalid', htime'⟩
    | some now =>
      obtain ⟨pressed, hi⟩ := cruiseNow_eq_some hnow
      exact .inr ⟨pressed, now, rfl, now_lt_of_wellFormed hwf hnow, exec_debounce_of_updates hexec hi⟩

/-! ### The ledger of accepted edges, sample by sample -/

theorem cruiseTimes_cons (c : Config) (p : InputSample) (ps : List InputSample) :
    cruiseTimes c (p :: ps) = (fsmTime c p).toList ++ cruiseTimes c ps := by
  cases hf : fsmTime c p with
  | none => exact List.filterMap_cons_none hf
  | some now => exact List.filterMap_cons_some hf

theorem acceptedEdges_cons {p : InputSample} {s u : State} (ps : List InputSample) (hu : clockEdge p s = .next u) :
    acceptedEdges (p :: ps) s = (if u.evtToggle then (fsmTime s.cfg p).toList else []) ++ acceptedEdges ps u := by
  have hstate : stateAfter (clockEdge p s) s = u := by rw [hu]; rfl
  unfold fsmTime
  rw [acceptedEdges, hstate]
  cases (issuedCommand s.cfg p).bind cruiseNow <;> cases u.evtToggle <;> rfl

theorem monotoneTimes_cons_iff (c : Config) (p : InputSample) (ps : List InputSample) :
    MonotoneTimes c (p :: ps) ↔
      (∀ now, fsmTime c p = some now → ∀ b ∈ cruiseTimes c ps, now ≤ b) ∧ MonotoneTimes c ps := by
  rw [MonotoneTimes, cruiseTimes_cons]
  cases fsmTime c p <;> simp [MonotoneTimes]

/-- Every accepted edge is one of the timestamps that the run gives to the FSM. -/
theorem mem_cruiseTimes_of_mem_acceptedEdges {ps : List InputSample} {s t : State} (hrun : runSamples ps s = .next t)
    {b : Nat} (hb : b ∈ acceptedEdges ps s) : b ∈ cruiseTimes s.cfg ps := by
  induction ps generalizing s with
  | nil => cases hb
  | cons p ps ih =>
    obtain ⟨u, hu, ht⟩ := andThen_eq_next.mp (runSamples_cons p ps s ▸ hrun)
    rw [acceptedEdges_cons ps hu, List.mem_append] at hb
    rw [cruiseTimes_cons, List.mem_append]
    refine hb.imp (fun hhead => ?_) (fun htail => ?_)
    · split at hhead
      · exact hhead
      · cases hhead
    · rw [← clockEdge_cfg hu]
      exact ih ht htail

/-! ### The quiet period in a run -/

/-- A quiet period that has run out by a timestamp that is not before its start has lasted `DEBOUNCE_TICKS` (R101). -/
theorem debounce_elapsed_of_not_quiet {s : State} {now : Nat} (hvalid : s.dbValid = true) (hquiet : quiet now s = false)
    (hle : s.dbTime ≤ now) (hnow : now < 2 ^ s.cfg.timeW) : s.dbTime + debounceTicks s.cfg ≤ now := by
  have hlong : ¬ elapsed s.cfg now s.dbTime < debounceTicks s.cfg := fun hshort =>
    Bool.false_ne_true (hquiet.symm.trans ((quiet_iff now s).mpr ⟨hvalid, hshort⟩))
  rw [elapsed_of_le hle hnow] at hlong
  omega

/-- While a quiet period is valid, a sample either leaves the timer as it is and accepts no edge, or carries a timestamp at which the
period has run out (R101, R103). -/
theorem clockEdge_dbValid_cases {p : InputSample} {s u : State} (hr : p.rst = false) (hu : clockEdge p s = .next u)
    (hvalid : s.dbValid = true) (hle : ∀ now, fsmTime s.cfg p = some now → s.dbTime ≤ now) :
    (u.dbValid = true ∧ u.dbTime = s.dbTime ∧ ∀ ps, acceptedEdges (p :: ps) s = acceptedEdges ps u) ∨
    ∃ now, fsmTime s.cfg p = some now ∧ s.dbTime + debounceTicks s.cfg ≤ now := by
  obtain ⟨hnone, hvalid', htime⟩ | ⟨pressed, now, hsome, hnow, hevent, hvalid', htime⟩ := clockEdge_debounce_cases hr hu
  · exact .inl ⟨hvalid'.trans hvalid, htime, fun ps => by simp [acceptedEdges_cons ps hu, hnone]⟩
  · cases hquiet : quiet now s with
    | true =>
      have hrejected : toggles pressed now s = false := by simp [toggles, hquiet]
      exact .inl ⟨by simp [hvalid', hquiet], by simp [htime, hrejected],
        fun ps => by simp [acceptedEdges_cons ps hu, hevent, hrejected]⟩
    | false => exact .inr ⟨now, hsome, debounce_elapsed_of_not_quiet hvalid hquiet (hle now hsome) hnow⟩

/-- No edge is accepted before the running quiet period has lasted `DEBOUNCE_TICKS`: until then the timer stays as it is, and after the
first timestamp at which it has run out, every timestamp is late enough. -/
theorem acceptedEdges_after_quiet {ps : List InputSample} {s t : State} (hnoReset : NoReset ps)
    (hmono : MonotoneTimes s.cfg ps) (hrun : runSamples ps s = .next t) (hvalid : s.dbValid = true)
    (hlater : ∀ b ∈ cruiseTimes s.cfg ps, s.dbTime ≤ b) {b : Nat} (hb : b ∈ acceptedEdges ps s) :
    s.dbTime + debounceTicks s.cfg ≤ b := by
  induction ps generalizing s with
  | nil => cases hb
  | cons p ps ih =>
    have hmem : b ∈ cruiseTimes s.cfg (p :: ps) := mem_cruiseTimes_of_mem_acceptedEdges hrun hb
    obtain ⟨u, hu, ht⟩ := andThen_eq_next.mp (runSamples_cons p ps s ▸ hrun)
    obtain ⟨hr, hnoReset'⟩ := List.forall_mem_cons.mp hnoReset
    obtain ⟨hhead, hmono'⟩ := (monotoneTimes_cons_iff s.cfg p ps).mp hmono
    rw [cruiseTimes_cons] at hlater hmem
    obtain ⟨hvalid', htime, hedges⟩ | ⟨now, hsome, hover⟩ :=
      clockEdge_dbValid_cases hr hu hvalid fun now hsome => hlater now (by simp [hsome])
    · have hcfg : u.cfg = s.cfg := clockEdge_cfg hu
      rw [← hcfg] at hmono' hlater ⊢
      rw [← htime] at hlater ⊢
      exact ih hnoReset' hmono' ht hvalid' (fun x hx => hlater x (List.mem_append_right _ hx)) (hedges ps ▸ hb)
    · have hnow : now ≤ b := by
        rw [hsome] at hmem
        obtain rfl | htail := List.mem_cons.mp hmem
        · exact le_rfl
        · exact hhead now hsome b htail
      exact hover.trans hnow

/-- Accepted edges are `DEBOUNCE_TICKS` apart: each starts a quiet period (R104), and the ones after it wait for its end. -/
theorem acceptedEdges_pairwise {ps : List InputSample} {s t : State} (hnoReset : NoReset ps)
    (hmono : MonotoneTimes s.cfg ps) (hrun : runSamples ps s = .next t) :
    (acceptedEdges ps s).Pairwise fun a b => a + debounceTicks s.cfg ≤ b := by
  induction ps generalizing s with
  | nil => exact List.Pairwise.nil
  | cons p ps ih =>
    obtain ⟨u, hu, ht⟩ := andThen_eq_next.mp (runSamples_cons p ps s ▸ hrun)
    obtain ⟨hr, hnoReset'⟩ := List.forall_mem_cons.mp hnoReset
    obtain ⟨hhead, hmono'⟩ := (monotoneTimes_cons_iff s.cfg p ps).mp hmono
    have hcfg : u.cfg = s.cfg := clockEdge_cfg hu
    rw [← hcfg] at hmono' hhead ⊢
    have htail : (acceptedEdges ps u).Pairwise fun a b => a + debounceTicks u.cfg ≤ b := ih hnoReset' hmono' ht
    rw [acceptedEdges_cons ps hu]
    obtain ⟨hnone, -⟩ | ⟨pressed, now, hsome, -, hevent, hvalid, htime⟩ := clockEdge_debounce_cases hr hu
    · simpa [hnone] using htail
    · cases htoggle : toggles pressed now s with
      | false => simpa [hevent, htoggle] using htail
      | true =>
        have hstart : u.dbTime = now := by rw [htime, if_pos htoggle]
        have hrunning : u.dbValid = true := by rw [hvalid, htoggle, Bool.true_or]
        rw [hevent, htoggle, if_pos rfl, hsome]
        refine List.pairwise_cons.mpr ⟨fun b hb => ?_, htail⟩
        rw [← hstart]
        exact acceptedEdges_after_quiet hnoReset' hmono' ht hrunning (hstart ▸ hhead now (hcfg ▸ hsome)) hb

/-- Settles O20: `DEBOUNCE_TICKS` is at least the exact interval. -/
theorem acceptedEdgesAreADebounceIntervalApart : Obligations.AcceptedEdgesAreADebounceIntervalApart := by
  intro ps s t _ hnoReset hmono hrun
  refine (acceptedEdges_pairwise hnoReset hmono hrun).imp fun {a b} hgap => ?_
  calc (a : ℚ) + (s.cfg.debounceInterval : ℚ) * (s.cfg.ticksPerSecond : ℚ) / 1000
    _ ≤ (a : ℚ) + (debounceTicks s.cfg : ℚ) := by gcongr; exact debounceInterval_le_debounceTicks s.cfg
    _ ≤ (b : ℚ) := by exact_mod_cast hgap

end Sys2Proof.Safety

/-! Proofs about the slew limiter (44_slew_limiter.md): a run of SLEW is one long slew step (R124), the integer forms of the duty
target stand for its exact rules (R116 to R119, R123), and every operation keeps the bounds of the step (R120). -/

namespace Sys2Proof.Machine

open Sys2Proof.Safety

/-! ### A slew step from below and from above (R120) -/

theorem slewStep_of_le {c : Config} {cur t : Nat} (h : cur ≤ t) : slewStep c cur t = min (cur + c.dutyStep) t := by
  obtain hlt | rfl := h.lt_or_eq
  · rw [slewStep, if_pos hlt]
  · rw [slewStep_self, Nat.min_eq_right (Nat.le_add_right _ _)]

theorem slewStep_of_ge {c : Config} {cur t : Nat} (h : t ≤ cur) : slewStep c cur t = max (cur - c.dutyStep) t := by
  obtain hlt | rfl := h.lt_or_eq
  · rw [slewStep, if_neg h.not_gt, if_pos hlt]
  · rw [slewStep_self, Nat.max_eq_right (Nat.sub_le _ _)]

/-- From above the truncated subtraction of the step is the exact one, because the target is not negative (R120). -/
theorem cast_slewStep_of_ge {c : Config} {cur t : Nat} (h : t ≤ cur) :
    ((slewStep c cur t : Nat) : Int) = max ((cur : Int) - (c.dutyStep : Int)) (t : Int) := by
  rw [slewStep_of_ge h]
  omega

/-! ### A run of SLEW (R124) -/

/-- The parameters with `k` times the `DUTY_STEP`: one slew step with them is `k` slew steps in a row. -/
def stretchStep (k : Nat) (c : Config) : Config := { c with dutyStep := k * c.dutyStep }

@[simp] theorem stretchStep_dutyStep (k : Nat) (c : Config) : (stretchStep k c).dutyStep = k * c.dutyStep := rfl

theorem slewStep_stretchStep_one (c : Config) (cur t : Nat) : slewStep (stretchStep 1 c) cur t = slewStep c cur t := by
  simp [slewStep]

/-- A first step and `k` more are `k + 1` steps, because a step stays on its side of the target. -/
theorem slewStep_stretchStep_succ (k : Nat) (c : Config) (cur t : Nat) :
    slewStep (stretchStep k c) (slewStep c cur t) t = slewStep (stretchStep (k + 1) c) cur t := by
  have hsucc : (k + 1) * c.dutyStep = k * c.dutyStep + c.dutyStep := Nat.succ_mul _ _
  obtain ⟨hup, hdown⟩ := slewStep_spec c cur t
  obtain hle | hge := Nat.le_total cur t
  · rw [slewStep_of_le (hup hle).2.1, slewStep_of_le hle, slewStep_of_le hle, stretchStep_dutyStep, stretchStep_dutyStep, hsucc]
    omega
  · rw [slewStep_of_ge (hdown hge).1, slewStep_of_ge hge, slewStep_of_ge hge, stretchStep_dutyStep, stretchStep_dutyStep, hsucc]
    omega

/-- A run of SLEW leaves what its first SLEW leaves, but that `cur` has gone as far as one stretched step takes it. -/
theorem slewTimes_succ (n : Nat) (s : State) :
    slewTimes (n + 1) s =
      .next { motorCommand s with cur := slewStep (stretchStep (n + 1) s.cfg) s.cur (motorCommand s).tgt } := by
  induction n generalizing s with
  | zero =>
    rw [Nat.zero_add, slewStep_stretchStep_one]
    rfl
  | succ n ih =>
    calc slewTimes (n + 1 + 1) s
      _ = slewTimes (n + 1) (motorCommand s) := rfl
      _ = .next { motorCommand s with
                    cur := slewStep (stretchStep (n + 1) s.cfg) (motorCommand s).cur (motorCommand s).tgt } := ih (motorCommand s)
      _ = .next { motorCommand s with
                    cur := slewStep (stretchStep (n + 1 + 1) s.cfg) s.cur (motorCommand s).tgt } := by
        rw [← slewStep_stretchStep_succ (n + 1)]
        rfl

/-- The number of operations of R124 is enough just when so many steps cover the distance. -/
theorem ceil_abs_sub_div_le_iff {a b d m : Nat} (hd : 0 < d) :
    ⌈|(a : ℚ) - (b : ℚ)| / (d : ℚ)⌉ ≤ (m : Int) ↔ b ≤ a + m * d ∧ a ≤ b + m * d := by
  rw [Int.ceil_le, div_le_iff₀ (Nat.cast_pos.mpr hd), ← cast_absDiff]
  have hdist : absDiff a b ≤ m * d ↔ b ≤ a + m * d ∧ a ≤ b + m * d := by
    unfold absDiff
    split <;> omega
  rw [← hdist]
  norm_cast

/-- Settles O25: the stretched step of a run, from below, from above, and long enough to land. -/
theorem slewReachesItsTargetAndStays : Obligations.SlewReachesItsTargetAndStays := by
  intro n s t1 hvalid h
  cases h
  obtain ⟨-, -, -, -, -, hstep, -⟩ := hvalid
  refine ⟨_, slewTimes_succ n s, rfl, fun hle => ?below, fun hge => ?above, fun hceil => ?lands⟩
  case below => exact slewStep_of_le hle
  case above => simpa using cast_slewStep_of_ge (c := stretchStep (n + 1) s.cfg) hge
  case lands =>
    obtain ⟨hup, hdown⟩ := (ceil_abs_sub_div_le_iff hstep).mp (by exact_mod_cast hceil)
    exact slewStep_lands hup hdown

/-! ### The exact duty target (R116 to R119) -/

/-- The selected rational is the speed when Engaged and the setpoint when Disengaged (R116). -/
theorem sourceSelect_toRat (s : State) : (sourceSelect s).toRat = if s.cruise = .engaged then s.speed else s.sp := by
  unfold sourceSelect
  cases s.cruise <;> rfl

/-- The clamped exact duty `d1` of a rational `v` (R117, R118). -/
def exactDuty (c : Config) (v : ℚ) : ℚ := min (max (v * (c.maxDuty : ℚ) / (c.tsr : ℚ)) 0) (c.maxDuty : ℚ)

/-- The lower clamp never acts on a speed or a setpoint (R118). -/
theorem exactDuty_toRat (c : Config) (v : Frac) :
    exactDuty c v.toRat = min (((v.num * c.maxDuty : Nat) : ℚ) / ((v.den * c.tsr : Nat) : ℚ)) (c.maxDuty : ℚ) := by
  have hfrac : v.toRat * (c.maxDuty : ℚ) / (c.tsr : ℚ) = ((v.num * c.maxDuty : Nat) : ℚ) / ((v.den * c.tsr : Nat) : ℚ) := by
    rw [Frac.toRat, div_mul_eq_mul_div, div_div]
    norm_cast
  rw [exactDuty, hfrac, max_eq_left (by positivity)]

/-- The integer form computes the floor of the exact duty, also where a denominator is 0. -/
theorem dutyTarget_eq_floor (c : Config) (v : Frac) : dutyTarget c v = ⌊exactDuty c v.toRat⌋₊ := by
  rw [exactDuty_toRat, Nat.floor_mono.map_min, Nat.floor_div_eq_div, Nat.floor_natCast, dutyTarget_eq_min]

/-- The snap below one unit is what the floor of a non-negative duty does anyway (R118, R119). -/
theorem snap_floor_eq (d : ℚ) : (if d < 1 then 0 else ⌊d⌋.toNat) = ⌊d⌋₊ := by
  split
  · next h => exact (Nat.floor_eq_zero.mpr h).symm
  · exact Int.floor_toNat d

/-- The step with its subtraction below 0 as the spec writes it (R120). -/
theorem slewStep_eq_exact (c : Config) (cur t : Nat) :
    slewStep c cur t =
      if cur < t then min (cur + c.dutyStep) t
      else if cur > t then (max ((cur : Int) - (c.dutyStep : Int)) (t : Int)).toNat
      else cur := by
  have hdown : (max ((cur : Int) - (c.dutyStep : Int)) (t : Int)).toNat = max (cur - c.dutyStep) t := by omega
  rw [hdown]
  rfl

/-- Settles O22: the integer target is the floor of the exact duty of the selected source, and the step is the exact one. -/
theorem slewStepsTowardTheExactTarget : Obligations.SlewStepsTowardTheExactTarget := by
  intro s _ v d1 t
  have htarget : dutyTarget s.cfg (sourceSelect s) = t := by
    calc dutyTarget s.cfg (sourceSelect s)
      _ = ⌊exactDuty s.cfg (sourceSelect s).toRat⌋₊ := dutyTarget_eq_floor _ _
      _ = ⌊d1⌋₊ := by rw [sourceSelect_toRat]; rfl
      _ = t := (snap_floor_eq d1).symm
  rw [exec_slew, motorCommand_eq, htarget, slewStep_eq_exact]

/-! ### The integer forms (R123) -/

theorem motorCommand_tgt (s : State) :
    (motorCommand s).tgt =
      min ((sourceSelect s).num * s.cfg.maxDuty / ((sourceSelect s).den * s.cfg.tsr)) s.cfg.maxDuty := dutyTarget_eq_min _ _

theorem sourceSelect_of_disengaged {s : State} (hcruise : s.cruise = .disengaged) : sourceSelect s = ⟨s.spNum, s.cfg.rawMax⟩ := by
  simp only [sourceSelect, hcruise, setpointFrac]

section Engaged

variable {s : State} (hcruise : s.cruise = .engaged)
include hcruise

theorem sourceSelect_of_no_sample (hnz : s.spdNz = false) : sourceSelect s = ⟨0, 1⟩ := by
  simp [sourceSelect, hcruise, speedFrac, hnz]

theorem sourceSelect_of_sample (hnz : s.spdNz = true) : sourceSelect s = ⟨60 * s.cfg.ticksPerSecond, s.spdPeriod⟩ := by
  simp [sourceSelect, hcruise, speedFrac, hnz]

end Engaged

/-- `60 * TICKS_PER_SECOND * MAX_DUTY` over the period times `TSR`, at most `MAX_DUTY`, with the values of the defaults. -/
theorem motorCommand_tgt_default {s : State} (hcfg : s.cfg = Config.default) (hcruise : s.cruise = .engaged)
    (hnz : s.spdNz = true) : (motorCommand s).tgt = min (60 * 1000 * 255 / (s.spdPeriod * 20)) 255 := by
  rw [motorCommand_tgt, sourceSelect_of_sample hcruise hnz, hcfg]
  rfl

/-- With the defaults a sample of at most 3000 ticks is full duty, and one above 765000 ticks none. -/
theorem motorCommand_tgt_default_boundaries {s : State} (hcfg : s.cfg = Config.default) (hcruise : s.cruise = .engaged)
    (hnz : s.spdNz = true) (hpos : 0 < s.spdPeriod) :
    (s.spdPeriod ≤ 3000 ↔ (motorCommand s).tgt = 255) ∧ (s.spdPeriod > 765000 ↔ (motorCommand s).tgt = 0) := by
  have hquotient (m : Nat) : m ≤ 60 * 1000 * 255 / (s.spdPeriod * 20) ↔ m * (s.spdPeriod * 20) ≤ 60 * 1000 * 255 :=
    Nat.le_div_iff_mul_le (by omega)
  have hfull := hquotient 255
  have hsome := hquotient 1
  rw [motorCommand_tgt_default hcfg hcruise hnz]
  generalize 60 * 1000 * 255 / (s.spdPeriod * 20) = q at hfull hsome ⊢
  omega

/-- Settles O23: the target is the integer form of the selected source, one source per clause. -/
theorem dutyTargetIntegerForms : Obligations.DutyTargetIntegerForms := by
  refine ⟨fun s _ => ⟨_, exec_slew s, fun hcruise => ?setpoint, fun hcruise hnz => ?none, fun hcruise hnz _ => ?sample⟩,
    fun s hcfg hcruise hnz hpos => ⟨_, exec_slew s, motorCommand_tgt_default_boundaries hcfg hcruise hnz hpos⟩⟩
  case setpoint => rw [motorCommand_tgt, sourceSelect_of_disengaged hcruise]
  case none => simp [motorCommand_tgt, sourceSelect_of_no_sample hcruise hnz]
  case sample => rw [motorCommand_tgt, sourceSelect_of_sample hcruise hnz]

/-! ### What any operation can do to `cur` (R120, R124) -/

/-- An operation keeps `cur`, or moves it one slew step toward the target it leaves, which is a duty. -/
theorem exec_cur_cases {i : Instr} {s t : State} (h : exec i s = .next t) :
    t.cur = s.cur ∨ (t.cur = slewStep s.cfg s.cur t.tgt ∧ t.tgt ≤ s.cfg.maxDuty) := by
  cases i with
  | slew =>
    cases h
    exact .inr ⟨rfl, dutyTarget_le _ _⟩
  | cycle pressed raw now =>
    have hcfg := exec_cfg h
    cases h
    refine .inr ⟨?_, hcfg ▸ dutyTarget_le _ _⟩
    simp [motorCommand_eq, driftPhase_eq, condition_eq, buttonPhase_eq, observation_eq]
  | pulse | nop | rdrst | observe | potcond | cruise | reserved111 =>
    obtain ⟨-, hcur⟩ := exec_duty_of_not_slews h (by simp) (by simp)
    exact .inl hcur

/-- Settles O24: a kept `cur` meets every bound, and a slew step keeps between `cur` and the target, one `DUTY_STEP` at most. -/
theorem dutyChangesByAtMostOneStep : Obligations.DutyChangesByAtMostOneStep := by
  intro i s hle
  obtain ⟨t, h⟩ := exec_completes i s
  refine ⟨t, h, ?_⟩
  rw [exec_cfg h, abs_le]
  obtain hkept | ⟨hstep, htgt⟩ := exec_cur_cases h
  · omega
  · have hmax : t.cur ≤ s.cfg.maxDuty := hstep ▸ slewStep_le hle htgt
    have hbounds := slewStep_spec s.cfg s.cur t.tgt
    rw [← hstep] at hbounds
    omega

end Sys2Proof.Machine

/-! Proofs about the control cycle (45_control_cycle.md): CYCLE as its sub-steps and as its four commands (R131, R132, R134), PULSE
events between the four commands (R132), and NOP (R135). -/

namespace Sys2Proof.Machine

open Sys2Proof.Safety

/-! ### CYCLE as its sub-steps and as its four commands (R131, R132, R134) -/

/-- Settles O26: each sub-step's meaning is known, and CYCLE and CRUISE are defined from the same two phases. -/
theorem cycleRunsItsSubstepsInOrder : Obligations.CycleRunsItsSubstepsInOrder := fun s pressed raw now =>
  ⟨_, _, _, exec_observe now s, exec_potcond raw _, exec_slew _, exec_cycle pressed raw now s, exec_cruise pressed now s⟩

/-- POTCOND writes `sp`, which the button phase neither reads nor writes: the two commute (R132). -/
theorem condition_buttonPhase (pressed : Bool) (raw now : Nat) (s : State) :
    condition raw (buttonPhase pressed now s) = buttonPhase pressed now (condition raw s) := by
  rw [buttonPhase_eq, buttonPhase_eq]
  rfl

/-- CYCLE with its sub-steps in the order of the four commands. -/
theorem exec_cycle_eq_four_commands (pressed : Bool) (raw now : Nat) (s : State) :
    exec (.cycle pressed raw now) s =
      .next (motorCommand (driftPhase (buttonPhase pressed now (condition raw (observation now s))))) := by
  rw [exec_cycle, condition_buttonPhase]

/-- Settles O27: the four commands differ from CYCLE only in that POTCOND comes before the button phase, and these two commute. -/
theorem cycleEqualsItsFourCommands : Obligations.CycleEqualsItsFourCommands := fun s pressed raw now =>
  ⟨_, exec_cycle_eq_four_commands pressed raw now s, rfl⟩

/-! ### PULSE events between the four commands (R44, R132) -/

/-- PULSE events before a command that does not read the counter may as well come after it. -/
theorem execSeq_pulses_cons {i : Instr} (hi : readsCounter i = false) (n : Nat) (is : List Instr) (s : State) :
    execSeq (List.replicate n .pulse ++ i :: is) s = execSeq (i :: (List.replicate n .pulse ++ is)) s := by
  induction n generalizing s with
  | zero => rfl
  | succ n ih =>
    calc execSeq (List.replicate (n + 1) .pulse ++ i :: is) s
      _ = execSeq (List.replicate n .pulse ++ i :: is) (bumpCount s) := rfl
      _ = execSeq (i :: (List.replicate n .pulse ++ is)) (bumpCount s) := ih (bumpCount s)
      _ = execSeq (i :: .pulse :: (List.replicate n .pulse ++ is)) s := by
        rw [execSeq_cons, exec_bumpCount_of_not_reads hi, andThen_assoc]
        rfl

/-- PULSE events on both sides of such a command come after it together. -/
theorem execSeq_pulses_cons_pulses {i : Instr} {s t : State} (hi : readsCounter i = false) (h : exec i s = .next t)
    (m n : Nat) (is : List Instr) :
    execSeq (List.replicate m .pulse ++ i :: (List.replicate n .pulse ++ is)) s =
      execSeq (List.replicate (m + n) .pulse ++ is) t := by
  rw [execSeq_pulses_cons hi, execSeq_cons, h, andThen_next, ← List.append_assoc, List.replicate_append_replicate]

/-- Settles O28: only OBSERVE reads the counter, so every PULSE event moves past the commands that follow it. -/
theorem pulsesBetweenTheFourCommandsLandAfterTheCycle : Obligations.PulsesBetweenTheFourCommandsLandAfterTheCycle := by
  intro s pressed raw now a b d
  simp only [List.append_assoc, List.cons_append, List.nil_append]
  calc execSeq (.observe now :: (List.replicate a .pulse ++ .potcond raw :: (List.replicate b .pulse ++
        .cruise pressed now :: (List.replicate d .pulse ++ [.slew])))) s
    _ = execSeq (List.replicate a .pulse ++ .potcond raw :: (List.replicate b .pulse ++
        .cruise pressed now :: (List.replicate d .pulse ++ [.slew]))) (observation now s) := rfl
    _ = execSeq (List.replicate (a + b) .pulse ++ .cruise pressed now :: (List.replicate d .pulse ++ [.slew]))
        (condition raw (observation now s)) := execSeq_pulses_cons_pulses rfl (exec_potcond ..) a b _
    _ = execSeq (List.replicate (a + b + d) .pulse ++ [.slew])
        (driftPhase (buttonPhase pressed now (condition raw (observation now s)))) :=
      execSeq_pulses_cons_pulses rfl (exec_cruise ..) (a + b) d _
    _ = execSeq (List.replicate (a + b + d) .pulse)
        (motorCommand (driftPhase (buttonPhase pressed now (condition raw (observation now s))))) := by
      rw [execSeq_pulses_cons rfl, execSeq_cons, exec_slew, andThen_next, List.append_nil]
    _ = execSeq (.cycle pressed raw now :: List.replicate (a + b + d) .pulse) s := by
      rw [execSeq_cons, exec_cycle_eq_four_commands, andThen_next]

/-! ### NOP (R135) -/

/-- Every word with `op = 000` is NOP, whatever its other fields hold (R52, R53). -/
theorem decode_command_eq_nop {c : Config} {w : Nat} (hw : w < 2 ^ cmdWidth c) (hop : fieldOp c w = 0) :
    decode c (.command w) = .ok .nop := by
  rw [decode_command_of_lt hw, hop]
  rfl

/-- Settles O30: the command part of the sample keeps the state, and its pulse part is PULSE. -/
theorem nopChangesNothing : Obligations.NopChangesNothing := by
  refine ⟨exec_nop, fun s p ps hvalid hi hr hv hfits hop => ?_⟩
  obtain ⟨hcommand, -⟩ := stepRunsTheDecodedOperation s p ps hvalid hi hr
  obtain ⟨halone, hwithPulse⟩ := hcommand .nop hv (decode_command_eq_nop hfits hop)
  cases hp : p.pulse with
  | false => exact halone hp
  | true => exact hwithPulse _ hp (exec_nop _)

end Sys2Proof.Machine

/-! Proofs about the outcomes of a step (60_exceptions.md): when a step of the core machine completes, when nothing arrives, and where
the checked machine stops. -/

namespace Sys2Proof.Safety

open Sys2Proof.Machine

/-! ### Nothing arrives (R153), and parameters that break R3 -/

theorem stepWith_of_not_valid (run : Instr → State → Out) {s : State} (hvalid : ¬ s.cfg.Valid) :
    stepWith run s = .refused .badConfig := if_neg hvalid

theorem stepWith_nil (run : Instr → State → Out) {s : State} (hvalid : s.cfg.Valid) (hi : s.inputs = []) :
    stepWith run s = .next s := by
  simp only [stepWith, if_pos hvalid, hi]

/-- Settles O39: without a command and without a PULSE both parts of the sample keep the state. -/
theorem nothingArrivingHoldsEveryRegister : Obligations.NothingArrivingHoldsEveryRegister := by
  refine ⟨fun s hvalid hi => stepWith_nil exec hvalid hi, fun s p ps hvalid hi hr hv hp => ?_⟩
  rw [step_of_not_rst hvalid hi hr, commandPart_of_not_cmdValid exec hv, andThen_next, pulsePart_of_not_pulse exec hp]
  rfl

/-! ### The outcomes of a step of the core machine (R3, R50, R140) -/

theorem commandPart_of_not_fits (run : Instr → State → Out) {p : InputSample} {s : State} (hv : p.cmdValid = true)
    (hwide : ¬ SampleFits s.cfg p) : commandPart run p s = .refused .commandTooWide := by
  have hd : decode s.cfg (.command p.cmd) = .error .commandTooWide := if_neg hwide
  simp [commandPart, issue, hv, hd]

theorem clockEdge_completes {p : InputSample} {s : State}
    (hfits : p.rst = false → p.cmdValid = true → SampleFits s.cfg p) : ∃ t, clockEdge p s = .next t := by
  cases hr : p.rst with
  | true => exact ⟨_, clockWith_of_rst exec hr s⟩
  | false =>
    have hcommand : ∃ u, commandPart exec p s = .next u := by
      cases hv : p.cmdValid with
      | false => exact ⟨s, commandPart_of_not_cmdValid exec hv s⟩
      | true => exact commandPart_completes (hfits hr hv)
    obtain ⟨u, hu⟩ := hcommand
    obtain ⟨t, ht⟩ := pulsePart_completes p u
    exact ⟨t, by rw [clockEdge, clockWith_of_not_rst exec hr, hu, andThen_next, ht]⟩

/-- The command that the pending sample issues, if it issues one, fits the port (R50). -/
def PendingCommandFits (s : State) : Prop :=
  ∀ p ps, s.inputs = p :: ps → p.rst = false → p.cmdValid = true → SampleFits s.cfg p

theorem step_completes {s : State} (hvalid : s.cfg.Valid) (hfits : PendingCommandFits s) : ∃ t, step s = .next t := by
  cases hi : s.inputs with
  | nil => exact ⟨s, stepWith_nil exec hvalid hi⟩
  | cons p ps =>
    obtain ⟨t, ht⟩ := clockEdge_completes (s := setInputs ps s) (hfits p ps hi)
    exact ⟨t, (stepWith_cons exec hvalid hi).trans ht⟩

theorem step_of_not_fits {s : State} (hvalid : s.cfg.Valid) (hwide : ¬ PendingCommandFits s) :
    step s = .refused .commandTooWide := by
  simp only [PendingCommandFits, not_forall] at hwide
  obtain ⟨p, ps, hi, hr, hv, hwide⟩ := hwide
  rw [step_of_not_rst hvalid hi hr, commandPart_of_not_fits exec (s := setInputs ps s) hv hwide, andThen_refused]

/-- Everything a step of the core machine can do, with the condition of each outcome. -/
theorem step_outcomes (s : State) :
    (¬ s.cfg.Valid ∧ step s = .refused .badConfig) ∨
    (s.cfg.Valid ∧ ¬ PendingCommandFits s ∧ step s = .refused .commandTooWide) ∨
    (s.cfg.Valid ∧ PendingCommandFits s ∧ ∃ t, step s = .next t) := by
  by_cases hvalid : s.cfg.Valid
  · by_cases hfits : PendingCommandFits s
    · exact .inr (.inr ⟨hvalid, hfits, step_completes hvalid hfits⟩)
    · exact .inr (.inl ⟨hvalid, hfits, step_of_not_fits hvalid hfits⟩)
  · exact .inl ⟨hvalid, stepWith_of_not_valid exec hvalid⟩

/-- Settles O40: only the refusal for invalid parameters is BadConfig, only a pending command too wide for the port keeps valid
parameters from a next state, and no outcome is a fault. -/
theorem everyStepCompletes : Obligations.EveryStepCompletes := by
  refine ⟨fun s => ?badConfig, fun s hvalid => ⟨fun ⟨t, ht⟩ => ?fits, step_completes hvalid⟩, fun s r => ?noFault⟩
  case badConfig =>
    obtain ⟨hvalid, hs⟩ | ⟨hvalid, -, hs⟩ | ⟨hvalid, -, t, hs⟩ := step_outcomes s <;> simp [hs, hvalid]
  case fits =>
    by_contra hwide
    cases (step_of_not_fits hvalid hwide).symm.trans ht
  case noFault =>
    obtain ⟨-, hs⟩ | ⟨-, -, hs⟩ | ⟨-, -, t, hs⟩ := step_outcomes s <;> simp [hs]

/-! ### The operations of the checked machine (R145) -/

theorem checkedExec_of_ne {i : Instr} (hpulse : i ≠ .pulse) (hreserved : i ≠ .reserved111) (s : State) :
    checkedExec i s = exec i s := by
  cases i with
  | pulse => exact absurd rfl hpulse
  | reserved111 => exact absurd rfl hreserved
  | nop | rdrst | observe | potcond | cruise | slew | cycle => rfl

theorem issuedCommand_eq_some {c : Config} {p : InputSample} {i : Instr} (h : issuedCommand c p = some i) :
    p.rst = false ∧ p.cmdValid = true ∧ decode c (.command p.cmd) = .ok i := by
  unfold issuedCommand at h
  split at h
  · cases h
  · split at h
    · split at h
      · cases h
        exact ⟨Bool.eq_false_of_not_eq_true ‹_›, ‹_›, ‹_›⟩
      · cases h
    · cases h

/-- PULSE is no command, so the reserved code is the one command that the checked machine treats in its own way. -/
theorem commandPart_checked {p : InputSample} {s : State} (hr : p.rst = false) (hfits : SampleFits s.cfg p)
    (hreserved : issuedCommand s.cfg p ≠ some .reserved111) : commandPart checkedExec p s = commandPart exec p s := by
  cases hv : p.cmdValid with
  | false => rw [commandPart_of_not_cmdValid checkedExec hv, commandPart_of_not_cmdValid exec hv]
  | true =>
    have hd := decode_command_of_lt hfits
    rw [issuedCommand_of_decode hr hv hd, ne_eq, Option.some.injEq] at hreserved
    rw [commandPart_of_decode checkedExec hv hd, commandPart_of_decode exec hv hd,
      checkedExec_of_ne (decode_command_ne_pulse hd) hreserved]

theorem pulsePart_checked {p : InputSample} {u : State} (hne : p.pulse = true → u.count ≠ countMax u.cfg) :
    pulsePart checkedExec p u = pulsePart exec p u := by
  cases hp : p.pulse with
  | false => rw [pulsePart_of_not_pulse checkedExec hp, pulsePart_of_not_pulse exec hp]
  | true =>
    rw [pulsePart_of_pulse checkedExec hp, pulsePart_of_pulse exec hp]
    exact if_neg (hne hp)

theorem pulsePart_checked_at_countMax {p : InputSample} {u : State} (hp : p.pulse = true) (htop : u.count = countMax u.cfg) :
    pulsePart checkedExec p u = .fault .counterOverflow := by
  rw [pulsePart_of_pulse checkedExec hp]
  exact if_pos htop

/-! ### Where the checked machine stops in one sample (R74, R145; entry 5) -/

/-- The sample's PULSE finds `count` at its top, and no read of the same sample has cleared it (R74, R75). -/
def PulseOverflows (s : State) (p : InputSample) : Prop :=
  p.rst = false ∧ p.pulse = true ∧ ((issuedCommand s.cfg p).map readsCounter).getD false = false ∧
    s.count = 2 ^ s.cfg.cntW - 1

/-- R3 makes the top of `count` differ from 0, so a count that a read has cleared is not at the top. -/
theorem pulseOverflows_iff {p : InputSample} {s u : State} (hvalid : s.cfg.Valid) (hr : p.rst = false)
    (hu : commandPart exec p s = .next u) : PulseOverflows s p ↔ p.pulse = true ∧ u.count = countMax u.cfg := by
  have htop : 0 < 2 ^ s.cfg.cntW - 1 := by
    have hle := ppr_le_top hvalid
    obtain ⟨hppr, -⟩ := hvalid
    omega
  rw [commandPart_count hr hu, commandPart_cfg hu, countMax, PulseOverflows]
  cases ((issuedCommand s.cfg p).map readsCounter).getD false with
  | false => simp [hr]
  | true => simp [htop.ne]

theorem checkedEdge_of_reserved {p : InputSample} {s : State} (hreserved : issuedCommand s.cfg p = some .reserved111) :
    checkedEdge p s = .refused .reservedOp := by
  obtain ⟨hr, hv, hd⟩ := issuedCommand_eq_some hreserved
  rw [checkedEdge, clockWith_of_not_rst checkedExec hr, commandPart_of_decode checkedExec hv hd]
  rfl

section CheckedEdge

variable {p : InputSample} {s : State} (hvalid : s.cfg.Valid) (hfits : SampleFits s.cfg p)
  (hreserved : issuedCommand s.cfg p ≠ some .reserved111)
include hvalid hfits hreserved

theorem checkedEdge_of_overflow (hoverflow : PulseOverflows s p) : checkedEdge p s = .fault .counterOverflow := by
  have ⟨hr, _⟩ := hoverflow
  obtain ⟨u, hu⟩ := commandPart_completes hfits
  obtain ⟨hp, htop⟩ := (pulseOverflows_iff hvalid hr hu).mp hoverflow
  rw [checkedEdge, clockWith_of_not_rst checkedExec hr, commandPart_checked hr hfits hreserved, hu, andThen_next,
    pulsePart_checked_at_countMax hp htop]

theorem checkedEdge_eq_clockEdge (hoverflow : ¬ PulseOverflows s p) : checkedEdge p s = clockEdge p s := by
  cases hr : p.rst with
  | true => rw [checkedEdge, clockEdge, clockWith_of_rst checkedExec hr, clockWith_of_rst exec hr]
  | false =>
    obtain ⟨u, hu⟩ := commandPart_completes hfits
    rw [pulseOverflows_iff hvalid hr hu, not_and] at hoverflow
    rw [checkedEdge, clockEdge, clockWith_of_not_rst checkedExec hr, clockWith_of_not_rst exec hr,
      commandPart_checked hr hfits hreserved, hu, andThen_next, andThen_next, pulsePart_checked hoverflow]

end CheckedEdge

/-- Settles O49: each clause is what the checked machine does with the pending sample. -/
theorem checkedMachineStopsExactlyAtTheFlaggedConditions :
    Obligations.CheckedMachineStopsExactlyAtTheFlaggedConditions := by
  refine ⟨fun s p ps hvalid hi hfits => ?_, fun s hvalid => stepWith_of_not_valid checkedExec hvalid⟩
  have hchecked : checkedStep s = checkedEdge p (setInputs ps s) := stepWith_cons checkedExec hvalid hi
  have hcore : step s = clockEdge p (setInputs ps s) := stepWith_cons exec hvalid hi
  rw [hchecked, hcore]
  exact ⟨checkedEdge_of_reserved (s := setInputs ps s),
    checkedEdge_of_overflow (s := setInputs ps s) hvalid hfits,
    fun hreserved hoverflow => ⟨checkedEdge_eq_clockEdge (s := setInputs ps s) hvalid hfits hreserved hoverflow,
      clockEdge_completes fun _ _ => hfits⟩⟩

end Sys2Proof.Safety

/-! Proofs about reset and hazards (70_reset_and_hazards.md): where OBSERVE may stand among the four commands
(R163), and the first CYCLE after reset (R159). -/

namespace Sys2Proof.Machine

/-! ### OBSERVE among the four commands (R163) -/

/-- The estimator and POTCOND share no register. -/
theorem observation_condition (now raw : Nat) (s : State) :
    observation now (condition raw s) = condition raw (observation now s) := by
  rw [observation_eq, observation_eq]
  rfl

/-- The estimator and the button phase share no register. -/
theorem observation_buttonPhase (pressed : Bool) (now now' : Nat) (s : State) :
    observation now' (buttonPhase pressed now s) = buttonPhase pressed now (observation now' s) := by
  rw [observation_eq, observation_eq, buttonPhase_eq, buttonPhase_eq]
  rfl

/-- The estimator and the drift phase share no register. -/
theorem observation_driftPhase (now : Nat) (s : State) :
    observation now (driftPhase s) = driftPhase (observation now s) := by
  rw [observation_eq, observation_eq, driftPhase_eq, driftPhase_eq]
  rfl

/-- Settles O29: an observation moves past the conditioning, and past each of the two phases of CRUISE. -/
theorem observeCommutesWithPotcondAndCruise : Obligations.ObserveCommutesWithPotcondAndCruise := by
  refine fun s pressed raw now => ⟨?potcond, ?cruise⟩
  case potcond =>
    rw [execSeq_pair, execSeq_pair, exec_observe, exec_potcond, andThen_next, andThen_next, exec_potcond, exec_observe,
      observation_condition]
  case cruise =>
    rw [execSeq_pair, execSeq_pair, exec_observe, exec_cruise, andThen_next, andThen_next, exec_cruise, exec_observe,
      observation_driftPhase, observation_buttonPhase]

/-! ### The first CYCLE after reset (R35, R159) -/

/-- No pulse has been counted and the threshold is at least 1 (R3): the first observation writes only what the reset wrote. -/
theorem observation_resetRegisters {s : State} (hvalid : s.cfg.Valid) (now : Nat) :
    observation now (resetRegisters s) = resetRegisters s := by
  have hbelow : (resetRegisters s).acc + (resetRegisters s).count < (resetRegisters s).cfg.ppr := by
    obtain ⟨hppr, -⟩ := hvalid
    exact hppr
  rw [observation_of_below (s := resetRegisters s) hvalid hbelow]
  rfl

/-- After reset the button counts as released and no quiet period runs, so a held button is an accepted edge. -/
theorem toggles_resetRegisters (pressed : Bool) (now : Nat) (s : State) : toggles pressed now (resetRegisters s) = pressed := by
  simp [toggles, edgeSeen, quiet]

/-- Against a remembered setpoint of 0 the drift test is a test of the setpoint itself (R105). -/
theorem driftHolds_iff_of_spPrevNum_eq_zero {s : State} (hvalid : s.cfg.Valid) (hprev : s.spPrevNum = 0) :
    driftHolds s = true ↔ s.sp > s.cfg.drift := by
  have hspPrev : s.spPrev = 0 := by simp [State.spPrev, prevSetpointFrac, Frac.toRat, hprev]
  have hsp : 0 ≤ s.sp := by
    simp only [State.sp, setpointFrac, Frac.toRat]
    positivity
  rw [driftHolds_iff hvalid, hspPrev, sub_zero, abs_of_nonneg hsp]

/-- Engaged without a speed sample is driven at duty 0 (R116, R159). -/
theorem motorCommand_tgt_of_no_sample {s : State} (hcruise : s.cruise = .engaged) (hnz : s.spdNz = false) :
    (motorCommand s).tgt = 0 := by
  simp [motorCommand_tgt, sourceSelect_of_no_sample hcruise hnz]

/-- The first CYCLE after reset without its observation, which changes nothing then. -/
def firstCycle (pressed : Bool) (raw now : Nat) (s : State) : State :=
  motorCommand (driftPhase (condition raw (buttonPhase pressed now (resetRegisters s))))

section FirstCycle

variable (pressed : Bool) (raw now : Nat) {s : State}

theorem exec_cycle_resetRegisters (hvalid : s.cfg.Valid) :
    exec (.cycle pressed raw now) (resetRegisters s) = .next (firstCycle pressed raw now s) := by
  rw [exec_cycle, observation_resetRegisters hvalid]
  rfl

theorem firstCycle_evtToggle (hvalid : s.cfg.Valid) : (firstCycle pressed raw now s).evtToggle = pressed := by
  obtain ⟨hevent, -, -⟩ := exec_debounce_of_updates (exec_cycle_resetRegisters pressed raw now hvalid) (.inr ⟨raw, rfl⟩)
  exact hevent.trans (toggles_resetRegisters pressed now s)

/-- The state that meets the drift phase is Engaged just when the button is held. -/
theorem firstButtonPhase_cruise_eq_engaged_iff :
    (buttonPhase pressed now (resetRegisters s)).cruise = .engaged ↔ pressed = true := by
  simp [buttonPhase_cruise_eq_engaged_iff, toggles_resetRegisters]

/-- The drift phase of the first CYCLE tests the setpoint that the CYCLE leaves. -/
theorem firstCycle_driftHolds_iff (hvalid : s.cfg.Valid) :
    driftHolds (condition raw (buttonPhase pressed now (resetRegisters s))) = true ↔
      (firstCycle pressed raw now s).sp > s.cfg.drift := by
  have hcfg : (condition raw (buttonPhase pressed now (resetRegisters s))).cfg = s.cfg := by simp
  have hprev : (condition raw (buttonPhase pressed now (resetRegisters s))).spPrevNum = 0 := by
    simp [condition_eq, buttonPhase_eq]
  rw [driftHolds_iff_of_spPrevNum_eq_zero (hcfg ▸ hvalid) hprev, hcfg]
  simp [firstCycle, State.sp, setpointFrac]

/-- A held button engages, and drift disengages in the same cycle (R110). -/
theorem firstCycle_cruise_eq_engaged_iff (hvalid : s.cfg.Valid) :
    (firstCycle pressed raw now s).cruise = .engaged ↔
      pressed = true ∧ ¬ (firstCycle pressed raw now s).sp > s.cfg.drift := by
  rw [← firstCycle_driftHolds_iff pressed raw now hvalid, firstCycle, motorCommand_cruise, driftPhase_cruise_eq_engaged_iff,
    condition_cruise, firstButtonPhase_cruise_eq_engaged_iff]

theorem firstCycle_evtDrift_iff (hvalid : s.cfg.Valid) :
    (firstCycle pressed raw now s).evtDrift = true ↔
      (firstCycle pressed raw now s).sp > s.cfg.drift ∧ pressed = true := by
  rw [← firstCycle_driftHolds_iff pressed raw now hvalid, ← firstButtonPhase_cruise_eq_engaged_iff pressed now (s := s)]
  exact driftPhase_evtDrift_iff _

theorem firstCycle_tgt_of_engaged (hengaged : (firstCycle pressed raw now s).cruise = .engaged) :
    (firstCycle pressed raw now s).tgt = 0 := by
  have hnz : (driftPhase (condition raw (buttonPhase pressed now (resetRegisters s)))).spdNz = false := by
    simp [driftPhase_eq, condition_eq, buttonPhase_eq]
  exact motorCommand_tgt_of_no_sample hengaged hnz

end FirstCycle

theorem CruiseState.eq_disengaged_iff (x : CruiseState) : x = .disengaged ↔ ¬ x = .engaged := by cases x <;> simp

/-- Settles O21: the flags and the state of the first CYCLE by the button and by the new setpoint. -/
theorem firstCycleAfterReset : Obligations.FirstCycleAfterReset := by
  intro s raw now hvalid
  have hengaged pressed := firstCycle_cruise_eq_engaged_iff pressed raw now hvalid
  have hdrift pressed := firstCycle_evtDrift_iff pressed raw now hvalid
  refine ⟨⟨_, exec_cycle_resetRegisters true raw now hvalid, firstCycle_evtToggle _ raw now hvalid, fun habove => ?above,
      fun hbelow => ?below⟩,
    ⟨_, exec_cycle_resetRegisters false raw now hvalid, firstCycle_evtToggle _ raw now hvalid, ?released⟩⟩
  case above =>
    rw [CruiseState.eq_disengaged_iff, hengaged, hdrift]
    exact ⟨fun ⟨_, hno⟩ => hno habove, habove, rfl⟩
  case below =>
    have hstate := (hengaged true).mpr ⟨rfl, hbelow⟩
    rw [← Bool.not_eq_true, hdrift]
    exact ⟨hstate, fun ⟨habove, _⟩ => hbelow habove, firstCycle_tgt_of_engaged true raw now hstate⟩
  case released =>
    rw [CruiseState.eq_disengaged_iff, hengaged, ← Bool.not_eq_true, hdrift]
    simp

end Sys2Proof.Machine
